-- ==== Sys2Proof/Word.lean ====
section
/-! DEFINITION. The two word types of the hardware (spec 00_scope.md R6): bytes and 16-bit addresses. -/

namespace Sys2Proof

/-- A byte: A, X, Y, S, P, an opcode, one bus access (R6). -/
abbrev Byte := BitVec 8

/-- A 16-bit word: PC and CPU addresses (R6). -/
abbrev Word := BitVec 16

end Sys2Proof
end

