-- ==== Sys2Proof/Machine/Memory.lean ====
section
/-! DEFINITION. Byte storage as a list of (index, byte) pairs in one canonical form: indices strictly
rising, and no entry equal to what an unlisted index reads as. -/

namespace Sys2Proof

/-- A byte store. One such list holds the flat RAM array, one each of the cartridge's memories (R44). -/
abbrev Memory := List Host.Cell

/-- What a cell that no entry lists reads as. DESIGN CHOICE (log 3), unsafe: the spec leaves power-on
contents open (R48, D15) and uses 0x00 for its tests. -/
def Memory.unlisted : Byte := 0x00#8

/-- The byte at index `k`. -/
def Memory.read : Memory → Nat → Byte
  | [], _ => Memory.unlisted
  | (j, v) :: m, k => if j = k then v else Memory.read m k

/-- Drop every entry of index `k`. -/
def Memory.erase : Memory → Nat → Memory
  | [], _ => []
  | (j, v) :: m, k => if j = k then Memory.erase m k else (j, v) :: Memory.erase m k

/-- Put an entry before the first one of a greater index. -/
def Memory.insert : Memory → Nat → Byte → Memory
  | [], k, v => [(k, v)]
  | (j, w) :: m, k, v => if k < j then (k, v) :: (j, w) :: m else (j, w) :: Memory.insert m k v

/-- Store `v` at index `k`, keeping the canonical form. -/
def Memory.write (m : Memory) (k : Nat) (v : Byte) : Memory :=
  if v = Memory.unlisted then Memory.erase m k else Memory.insert (Memory.erase m k) k v

/-- Every index of the list is greater than `b`, they rise strictly, and no byte is the unlisted one. -/
def Memory.wfAbove : Option Nat → Memory → Bool
  | _, [] => true
  | none, (j, v) :: m => (v != Memory.unlisted) && Memory.wfAbove (some j) m
  | some b, (j, v) :: m => decide (b < j) && (v != Memory.unlisted) && Memory.wfAbove (some j) m

/-- The canonical form. -/
def Memory.wf (m : Memory) : Bool := Memory.wfAbove none m

/-- Every listed index satisfies `p`. -/
def Memory.within (p : Nat → Bool) (m : Memory) : Bool := m.all fun c => p c.1

/-- The store that holds the bytes of a list from index `k` on: how an image becomes a ROM. -/
def Memory.ofBytesFrom : Nat → List Byte → Memory
  | _, [] => []
  | k, b :: bs =>
    if b = Memory.unlisted then Memory.ofBytesFrom (k + 1) bs
    else (k, b) :: Memory.ofBytesFrom (k + 1) bs

/-- The store that holds the bytes of a list from index 0 on. -/
def Memory.ofBytes (bs : List Byte) : Memory := Memory.ofBytesFrom 0 bs

end Sys2Proof
end

