-- ==== Sys2Proof/Config.lean ====
section
/-! DEFINITION. What is fixed before the first cycle (spec 00_scope.md R7, R8): the cartridge image, the
power-on values, and the parameters the spec leaves open, as constants without a body. -/

namespace Sys2Proof

/-- `MAGIC`, the constant of the unstable opcodes ANE and LXA (R7, D13). A FREE VALUE: OPEN in the spec (log 5). -/
opaque Config.magic : Byte

/-- `Periph`: what the environment answers to a read of the peripheral cell at a mirrored address, at a given
value of the cycle counter, when `State.periphIn` holds no answer (R7, R65, D21). A FREE VALUE (log 6). -/
opaque Config.periphByte : Nat → Word → Byte

/-- What the trace view samples at an instruction boundary (60_exceptions.md R430). A byte of `bytes` is none where
it lies in a peripheral cell, which the view may not read (log 7). -/
structure TraceView where
  pc     : Word
  bytes  : List (Option Byte)
  a      : Byte
  x      : Byte
  y      : Byte
  p      : Byte
  sp     : Byte
  cycles : Nat
  deriving DecidableEq, Repr

/-- `TraceFormat`, the layout of the trace line (R7, D18). A FREE VALUE: OPEN in the spec (log 7). -/
opaque Config.traceFormat : TraceView → String

/-- `MapperKind` (R7). -/
inductive MapperKind where
  | fixedBank
  | switchableBank
  | unsupported (id : Nat)
  deriving DecidableEq, Repr

/-- `Mirroring` of the name tables: read by no rule of this block (R7). -/
inductive Mirroring where
  | horizontal
  | vertical
  | fourScreen
  deriving DecidableEq, Repr

/-- The parsed cartridge (R7, R8). `prg_rom_size` is the length of `prgRom` and `chr_size` that of `chr`. -/
structure CartridgeImage where
  mapperId   : Nat
  prgRom     : List Byte
  prgRamSize : Nat
  chr        : List Byte
  chrIsRam   : Bool
  mirroring  : Mirroring
  battery    : Bool
  trainer    : Bool
  deriving DecidableEq, Repr

/-- The variant a mapper id selects (20_memory.md R71). PRESUMED (log 15): ids 0 and 1 are the conventional ones. -/
def MapperKind.ofId : Nat → MapperKind
  | 0 => .fixedBank
  | 1 => .switchableBank
  | n => .unsupported n

/-- The fatal configuration errors (60_exceptions.md R421): found before the first cycle, the block never starts. -/
inductive ConfigError where
  /-- The header's mapper id has no supported variant (R71, R421). -/
  | unsupportedMapper (id : Nat)
  /-- The switchable-bank variant, whose banking is unspecified (R76, D22). -/
  | switchableBank
  /-- `prg_rom_size` is not a power of two (R75). -/
  | prgRomSize (n : Nat)
  /-- `chr_size` is neither 0 nor a power of two (R74, R75; log 13). -/
  | chrSize (n : Nat)
  /-- `prg_ram_size` is neither 0 nor a power of two up to 0x2000 (R7, R75; log 14). -/
  | prgRamSize (n : Nat)
  deriving DecidableEq, Repr

/-- A cartridge that passed the configuration check: the fixed-bank mapper's payload (R70, R72 to R74). The sizes are
held as exponents, so that each is a power of two by construction (R75); none is size 0. -/
structure Cartridge where
  prgRomLog2 : Nat
  prgRom     : Memory
  prgRamLog2 : Option Nat
  prgRam     : Memory
  chrLog2    : Option Nat
  chr        : Memory
  chrIsRam   : Bool
  mirroring  : Mirroring
  battery    : Bool
  trainer    : Bool
  deriving DecidableEq, Repr

/-- `2 ^ k`, or 0 for none. -/
def sizeOfLog2 : Option Nat → Nat
  | none => 0
  | some k => 2 ^ k

/-- `prg_rom_size`. -/
def Cartridge.prgRomSize (c : Cartridge) : Nat := 2 ^ c.prgRomLog2

/-- `prg_ram_size`. -/
def Cartridge.prgRamSize (c : Cartridge) : Nat := sizeOfLog2 c.prgRamLog2

/-- `chr_size`. -/
def Cartridge.chrSize (c : Cartridge) : Nat := sizeOfLog2 c.chrLog2

/-- The cartridge of State.reset: sizes 0x8000, 0x2000, 0x2000, every byte 0x00. DESIGN CHOICE (log 4). -/
def Cartridge.blank : Cartridge where
  prgRomLog2 := 15
  prgRom := []
  prgRamLog2 := some 13
  prgRam := []
  chrLog2 := some 13
  chr := []
  chrIsRam := true
  mirroring := .horizontal
  battery := false
  trainer := false

/-- `PowerOn`: the state before the first cycle (R7, R48). OPEN in the spec: an argument of State.powerOn. -/
structure PowerOn where
  a : Byte
  x : Byte
  y : Byte
  sp : Byte
  pc : Word
  n : Bool
  v : Bool
  d : Bool
  i : Bool
  z : Bool
  c : Bool
  /-- The 2048 RAM cells and the cells 0x4018 to 0x401F (D15). -/
  ram : Memory
  /-- The cartridge RAM (D15). -/
  prgRam : Memory
  deriving DecidableEq, Repr

/-- The recommended default launch state (R48, D4, D15). DESIGN CHOICE (log 1). -/
def PowerOn.recommended : PowerOn where
  a := 0x00#8
  x := 0x00#8
  y := 0x00#8
  sp := 0x00#8
  pc := 0x0000#16
  n := false
  v := false
  d := false
  i := false
  z := false
  c := false
  ram := []
  prgRam := []

/-- The NMI vector (60_exceptions.md R409). -/
def Config.nmiVector : Word := 0xFFFA#16
/-- The RESET vector (R409). -/
def Config.resetVector : Word := 0xFFFC#16
/-- The IRQ and BRK vector (R409). -/
def Config.irqVector : Word := 0xFFFE#16

end Sys2Proof
end

