-- ==== Sys2Proof/Machine/Bits.lean ====
section
/-! DEFINITION. The bit-field, extension and byte-order helpers of spec 00_scope.md R9. -/

namespace Sys2Proof

/-- `lo(w)`, bits 7 to 0 (R9). -/
def lo (w : Word) : Byte := w.setWidth 8

/-- `hi(w)`, bits 15 to 8 (R9). -/
def hi (w : Word) : Byte := w.extractLsb' 8 8

/-- `w16(h, l) = (h << 8) | l` (R9). -/
def w16 (h l : Byte) : Word := h ++ l

/-- `zext_16(b)` (R9). -/
def zext16 (b : Byte) : Word := b.setWidth 16

/-- `sext_16(b)`: `b` if `b < 128`, else `b + 0xFF00` (R9). -/
def sext16 (b : Byte) : Word := b.signExtend 16

/-- The byte with bit `k` equal to `b` and every other bit 0. -/
def bitAt (k : Nat) (b : Bool) : Byte := if b then 1#8 <<< k else 0#8

/-- The address of the stack cell that `S` designates, `0x0100 | S` (R23). -/
def stackAddr (sp : Byte) : Word := 0x0100#16 ||| zext16 sp

end Sys2Proof
end

