-- ==== Sys2Proof/Syntax.lean ====
section
/-! DEFINITION. The instruction set as syntax: the mnemonics, the 13 addressing modes and the four operation groups as
tags, and Instr, whose terms stand for the 256 rows of spec/opcode_table.json with their operands (30_encoding.md R115 to R118). -/

namespace Sys2Proof

/-- The 13 addressing modes, by the short names of 30_encoding.md R112. -/
inductive Mode where
  | imp | acc | imm | zp | zpx | zpy | rel | abs | abx | aby | ind | izx | izy
  deriving DecidableEq, Repr

/-- The operation group of an opcode (30_encoding.md R126, 10_state.md R33). -/
inductive OpGroup where
  | read | write | rmw | none
  deriving DecidableEq, Repr

/-- The 77 mnemonics (30_encoding.md R116, R117). -/
inductive Mnemonic where
  | adc | alr | anc | and | ane | arr | asl | bcc | bcs | beq | bit | bmi | bne | bpl | brk | bvc | bvs
  | clc | cld | cli | clv | cmp | cpx | cpy | dcp | dec | dex | dey | eor | inc | inx | iny | isc | jam
  | jmp | jsr | las | lax | lda | ldx | ldy | lsr | lxa | nop | ora | pha | php | pla | plp | rla | rol
  | ror | rra | rti | rts | sax | sbc | sbx | sec | sed | sei | sha | shx | shy | slo | sre | sta | stx
  | sty | tas | tax | tay | tsx | txa | txs | tya | usbc
  deriving DecidableEq, Repr

/-- The eight modes that address memory, with their operand bytes: a zero-page address `z` or a 16-bit address `a`
(30_encoding.md R112, 41_addressing_modes.md R161). -/
inductive MemMode where
  | zp (z : Byte) | zpx (z : Byte) | zpy (z : Byte)
  | abs (a : Word) | abx (a : Word) | aby (a : Word)
  | izx (z : Byte) | izy (z : Byte)
  deriving DecidableEq, Repr

/-- The operand of an instruction. `target` is the absolute mode as JMP and JSR use it, `ind` the pointer of JMP indirect
(30_encoding.md R112, R113). -/
inductive Operand where
  | imp
  | acc
  | imm (d : Byte)
  | mem (m : MemMode)
  | rel (d : Byte)
  | target (a : Word)
  | ind (p : Word)
  deriving DecidableEq, Repr

/-- One constructor for each row of spec/opcode_table.json, but that rows with one mnemonic and one mode (JAM, the undocumented
NOPs, ANC: R117) share a constructor whose first argument `k` says which of their opcode bytes it is (log 26). An operand is the
instruction's operand bytes: `d` an immediate or a branch offset, `z` a zero-page byte, `a` and `p` a 16-bit address, low byte
first (30_encoding.md R111, R113). -/
inductive Instr where
  | brk
  | oraIzx (z : Byte)
  | jam (k : Fin 12)
  | sloIzx (z : Byte)
  | nopZp (k : Fin 3) (z : Byte)
  | oraZp (z : Byte)
  | aslZp (z : Byte)
  | sloZp (z : Byte)
  | php
  | oraImm (d : Byte)
  | aslAcc
  | anc (k : Fin 2) (d : Byte)
  | nopAbs (a : Word)
  | oraAbs (a : Word)
  | aslAbs (a : Word)
  | sloAbs (a : Word)
  | bpl (d : Byte)
  | oraIzy (z : Byte)
  | sloIzy (z : Byte)
  | nopZpx (k : Fin 6) (z : Byte)
  | oraZpx (z : Byte)
  | aslZpx (z : Byte)
  | sloZpx (z : Byte)
  | clc
  | oraAby (a : Word)
  | nopImp (k : Fin 6)
  | sloAby (a : Word)
  | nopAbx (k : Fin 6) (a : Word)
  | oraAbx (a : Word)
  | aslAbx (a : Word)
  | sloAbx (a : Word)
  | jsr (a : Word)
  | andIzx (z : Byte)
  | rlaIzx (z : Byte)
  | bitZp (z : Byte)
  | andZp (z : Byte)
  | rolZp (z : Byte)
  | rlaZp (z : Byte)
  | plp
  | andImm (d : Byte)
  | rolAcc
  | bitAbs (a : Word)
  | andAbs (a : Word)
  | rolAbs (a : Word)
  | rlaAbs (a : Word)
  | bmi (d : Byte)
  | andIzy (z : Byte)
  | rlaIzy (z : Byte)
  | andZpx (z : Byte)
  | rolZpx (z : Byte)
  | rlaZpx (z : Byte)
  | sec
  | andAby (a : Word)
  | rlaAby (a : Word)
  | andAbx (a : Word)
  | rolAbx (a : Word)
  | rlaAbx (a : Word)
  | rti
  | eorIzx (z : Byte)
  | sreIzx (z : Byte)
  | eorZp (z : Byte)
  | lsrZp (z : Byte)
  | sreZp (z : Byte)
  | pha
  | eorImm (d : Byte)
  | lsrAcc
  | alr (d : Byte)
  | jmpAbs (a : Word)
  | eorAbs (a : Word)
  | lsrAbs (a : Word)
  | sreAbs (a : Word)
  | bvc (d : Byte)
  | eorIzy (z : Byte)
  | sreIzy (z : Byte)
  | eorZpx (z : Byte)
  | lsrZpx (z : Byte)
  | sreZpx (z : Byte)
  | cli
  | eorAby (a : Word)
  | sreAby (a : Word)
  | eorAbx (a : Word)
  | lsrAbx (a : Word)
  | sreAbx (a : Word)
  | rts
  | adcIzx (z : Byte)
  | rraIzx (z : Byte)
  | adcZp (z : Byte)
  | rorZp (z : Byte)
  | rraZp (z : Byte)
  | pla
  | adcImm (d : Byte)
  | rorAcc
  | arr (d : Byte)
  | jmpInd (p : Word)
  | adcAbs (a : Word)
  | rorAbs (a : Word)
  | rraAbs (a : Word)
  | bvs (d : Byte)
  | adcIzy (z : Byte)
  | rraIzy (z : Byte)
  | adcZpx (z : Byte)
  | rorZpx (z : Byte)
  | rraZpx (z : Byte)
  | sei
  | adcAby (a : Word)
  | rraAby (a : Word)
  | adcAbx (a : Word)
  | rorAbx (a : Word)
  | rraAbx (a : Word)
  | nopImm (k : Fin 5) (d : Byte)
  | staIzx (z : Byte)
  | saxIzx (z : Byte)
  | styZp (z : Byte)
  | staZp (z : Byte)
  | stxZp (z : Byte)
  | saxZp (z : Byte)
  | dey
  | txa
  | ane (d : Byte)
  | styAbs (a : Word)
  | staAbs (a : Word)
  | stxAbs (a : Word)
  | saxAbs (a : Word)
  | bcc (d : Byte)
  | staIzy (z : Byte)
  | shaIzy (z : Byte)
  | styZpx (z : Byte)
  | staZpx (z : Byte)
  | stxZpy (z : Byte)
  | saxZpy (z : Byte)
  | tya
  | staAby (a : Word)
  | txs
  | tas (a : Word)
  | shy (a : Word)
  | staAbx (a : Word)
  | shx (a : Word)
  | shaAby (a : Word)
  | ldyImm (d : Byte)
  | ldaIzx (z : Byte)
  | ldxImm (d : Byte)
  | laxIzx (z : Byte)
  | ldyZp (z : Byte)
  | ldaZp (z : Byte)
  | ldxZp (z : Byte)
  | laxZp (z : Byte)
  | tay
  | ldaImm (d : Byte)
  | tax
  | lxa (d : Byte)
  | ldyAbs (a : Word)
  | ldaAbs (a : Word)
  | ldxAbs (a : Word)
  | laxAbs (a : Word)
  | bcs (d : Byte)
  | ldaIzy (z : Byte)
  | laxIzy (z : Byte)
  | ldyZpx (z : Byte)
  | ldaZpx (z : Byte)
  | ldxZpy (z : Byte)
  | laxZpy (z : Byte)
  | clv
  | ldaAby (a : Word)
  | tsx
  | las (a : Word)
  | ldyAbx (a : Word)
  | ldaAbx (a : Word)
  | ldxAby (a : Word)
  | laxAby (a : Word)
  | cpyImm (d : Byte)
  | cmpIzx (z : Byte)
  | dcpIzx (z : Byte)
  | cpyZp (z : Byte)
  | cmpZp (z : Byte)
  | decZp (z : Byte)
  | dcpZp (z : Byte)
  | iny
  | cmpImm (d : Byte)
  | dex
  | sbx (d : Byte)
  | cpyAbs (a : Word)
  | cmpAbs (a : Word)
  | decAbs (a : Word)
  | dcpAbs (a : Word)
  | bne (d : Byte)
  | cmpIzy (z : Byte)
  | dcpIzy (z : Byte)
  | cmpZpx (z : Byte)
  | decZpx (z : Byte)
  | dcpZpx (z : Byte)
  | cld
  | cmpAby (a : Word)
  | dcpAby (a : Word)
  | cmpAbx (a : Word)
  | decAbx (a : Word)
  | dcpAbx (a : Word)
  | cpxImm (d : Byte)
  | sbcIzx (z : Byte)
  | iscIzx (z : Byte)
  | cpxZp (z : Byte)
  | sbcZp (z : Byte)
  | incZp (z : Byte)
  | iscZp (z : Byte)
  | inx
  | sbcImm (d : Byte)
  | nop
  | usbc (d : Byte)
  | cpxAbs (a : Word)
  | sbcAbs (a : Word)
  | incAbs (a : Word)
  | iscAbs (a : Word)
  | beq (d : Byte)
  | sbcIzy (z : Byte)
  | iscIzy (z : Byte)
  | sbcZpx (z : Byte)
  | incZpx (z : Byte)
  | iscZpx (z : Byte)
  | sed
  | sbcAby (a : Word)
  | iscAby (a : Word)
  | sbcAbx (a : Word)
  | incAbx (a : Word)
  | iscAbx (a : Word)
  deriving DecidableEq, Repr

end Sys2Proof
end

