-- ==== Sys2Proof/Decode.lean ====
section
/-! DEFINITION. The opcode table (30_encoding.md R114, R115), the decoder, total on any bytes, and the encoder, both from the
formats of R111 and the byte values of R115. -/

namespace Sys2Proof

/-- One entry of the opcode table: {mnemonic, addressing mode, base cycles} (R114), with the page-cross mark, the operation
group and the documented mark that spec/opcode_table.json records beside them. -/
structure OpcodeRow where
  mnemonic   : Mnemonic
  mode       : Mode
  cycles     : Nat
  pageCross  : Bool
  group      : OpGroup
  documented : Bool
  deriving DecidableEq, Repr

/-- The length in bytes of an instruction of a mode: formats F1, F2, F3 (R111, R112). -/
def Mode.length : Mode → Nat
  | .imp | .acc => 1
  | .imm | .zp | .zpx | .zpy | .izx | .izy | .rel => 2
  | .abs | .abx | .aby | .ind => 3

/-- A documented row with no page-cross mark. -/
def docRow (m : Mnemonic) (mode : Mode) (cycles : Nat) (g : OpGroup) : OpcodeRow := ⟨m, mode, cycles, false, g, true⟩
/-- A documented row marked `+`: one more cycle when the index addition crosses a page. -/
def docRowX (m : Mnemonic) (mode : Mode) (cycles : Nat) (g : OpGroup) : OpcodeRow := ⟨m, mode, cycles, true, g, true⟩
/-- An undocumented row (`~`) with no page-cross mark. -/
def undocRow (m : Mnemonic) (mode : Mode) (cycles : Nat) (g : OpGroup) : OpcodeRow := ⟨m, mode, cycles, false, g, false⟩
/-- An undocumented row (`~`) marked `+`. -/
def undocRowX (m : Mnemonic) (mode : Mode) (cycles : Nat) (g : OpGroup) : OpcodeRow := ⟨m, mode, cycles, true, g, false⟩

/-- Row 0x of the opcode matrix (R115), columns 0 to F. A JAM entry has 0 base cycles: it never completes (R119). -/
def opcodeRows0 : List OpcodeRow :=
  [ docRow .brk .imp 7 .none,
    docRow .ora .izx 6 .read,
    undocRow .jam .imp 0 .none,
    undocRow .slo .izx 8 .rmw,
    undocRow .nop .zp 3 .read,
    docRow .ora .zp 3 .read,
    docRow .asl .zp 5 .rmw,
    undocRow .slo .zp 5 .rmw,
    docRow .php .imp 3 .none,
    docRow .ora .imm 2 .read,
    docRow .asl .acc 2 .none,
    undocRow .anc .imm 2 .read,
    undocRow .nop .abs 4 .read,
    docRow .ora .abs 4 .read,
    docRow .asl .abs 6 .rmw,
    undocRow .slo .abs 6 .rmw ]

/-- Row 1x of the opcode matrix (R115), columns 0 to F. A JAM entry has 0 base cycles: it never completes (R119). -/
def opcodeRows1 : List OpcodeRow :=
  [ docRow .bpl .rel 2 .none,
    docRowX .ora .izy 5 .read,
    undocRow .jam .imp 0 .none,
    undocRow .slo .izy 8 .rmw,
    undocRow .nop .zpx 4 .read,
    docRow .ora .zpx 4 .read,
    docRow .asl .zpx 6 .rmw,
    undocRow .slo .zpx 6 .rmw,
    docRow .clc .imp 2 .none,
    docRowX .ora .aby 4 .read,
    undocRow .nop .imp 2 .none,
    undocRow .slo .aby 7 .rmw,
    undocRowX .nop .abx 4 .read,
    docRowX .ora .abx 4 .read,
    docRow .asl .abx 7 .rmw,
    undocRow .slo .abx 7 .rmw ]

/-- Row 2x of the opcode matrix (R115), columns 0 to F. A JAM entry has 0 base cycles: it never completes (R119). -/
def opcodeRows2 : List OpcodeRow :=
  [ docRow .jsr .abs 6 .none,
    docRow .and .izx 6 .read,
    undocRow .jam .imp 0 .none,
    undocRow .rla .izx 8 .rmw,
    docRow .bit .zp 3 .read,
    docRow .and .zp 3 .read,
    docRow .rol .zp 5 .rmw,
    undocRow .rla .zp 5 .rmw,
    docRow .plp .imp 4 .none,
    docRow .and .imm 2 .read,
    docRow .rol .acc 2 .none,
    undocRow .anc .imm 2 .read,
    docRow .bit .abs 4 .read,
    docRow .and .abs 4 .read,
    docRow .rol .abs 6 .rmw,
    undocRow .rla .abs 6 .rmw ]

/-- Row 3x of the opcode matrix (R115), columns 0 to F. A JAM entry has 0 base cycles: it never completes (R119). -/
def opcodeRows3 : List OpcodeRow :=
  [ docRow .bmi .rel 2 .none,
    docRowX .and .izy 5 .read,
    undocRow .jam .imp 0 .none,
    undocRow .rla .izy 8 .rmw,
    undocRow .nop .zpx 4 .read,
    docRow .and .zpx 4 .read,
    docRow .rol .zpx 6 .rmw,
    undocRow .rla .zpx 6 .rmw,
    docRow .sec .imp 2 .none,
    docRowX .and .aby 4 .read,
    undocRow .nop .imp 2 .none,
    undocRow .rla .aby 7 .rmw,
    undocRowX .nop .abx 4 .read,
    docRowX .and .abx 4 .read,
    docRow .rol .abx 7 .rmw,
    undocRow .rla .abx 7 .rmw ]

/-- Row 4x of the opcode matrix (R115), columns 0 to F. A JAM entry has 0 base cycles: it never completes (R119). -/
def opcodeRows4 : List OpcodeRow :=
  [ docRow .rti .imp 6 .none,
    docRow .eor .izx 6 .read,
    undocRow .jam .imp 0 .none,
    undocRow .sre .izx 8 .rmw,
    undocRow .nop .zp 3 .read,
    docRow .eor .zp 3 .read,
    docRow .lsr .zp 5 .rmw,
    undocRow .sre .zp 5 .rmw,
    docRow .pha .imp 3 .none,
    docRow .eor .imm 2 .read,
    docRow .lsr .acc 2 .none,
    undocRow .alr .imm 2 .read,
    docRow .jmp .abs 3 .none,
    docRow .eor .abs 4 .read,
    docRow .lsr .abs 6 .rmw,
    undocRow .sre .abs 6 .rmw ]

/-- Row 5x of the opcode matrix (R115), columns 0 to F. A JAM entry has 0 base cycles: it never completes (R119). -/
def opcodeRows5 : List OpcodeRow :=
  [ docRow .bvc .rel 2 .none,
    docRowX .eor .izy 5 .read,
    undocRow .jam .imp 0 .none,
    undocRow .sre .izy 8 .rmw,
    undocRow .nop .zpx 4 .read,
    docRow .eor .zpx 4 .read,
    docRow .lsr .zpx 6 .rmw,
    undocRow .sre .zpx 6 .rmw,
    docRow .cli .imp 2 .none,
    docRowX .eor .aby 4 .read,
    undocRow .nop .imp 2 .none,
    undocRow .sre .aby 7 .rmw,
    undocRowX .nop .abx 4 .read,
    docRowX .eor .abx 4 .read,
    docRow .lsr .abx 7 .rmw,
    undocRow .sre .abx 7 .rmw ]

/-- Row 6x of the opcode matrix (R115), columns 0 to F. A JAM entry has 0 base cycles: it never completes (R119). -/
def opcodeRows6 : List OpcodeRow :=
  [ docRow .rts .imp 6 .none,
    docRow .adc .izx 6 .read,
    undocRow .jam .imp 0 .none,
    undocRow .rra .izx 8 .rmw,
    undocRow .nop .zp 3 .read,
    docRow .adc .zp 3 .read,
    docRow .ror .zp 5 .rmw,
    undocRow .rra .zp 5 .rmw,
    docRow .pla .imp 4 .none,
    docRow .adc .imm 2 .read,
    docRow .ror .acc 2 .none,
    undocRow .arr .imm 2 .read,
    docRow .jmp .ind 5 .none,
    docRow .adc .abs 4 .read,
    docRow .ror .abs 6 .rmw,
    undocRow .rra .abs 6 .rmw ]

/-- Row 7x of the opcode matrix (R115), columns 0 to F. A JAM entry has 0 base cycles: it never completes (R119). -/
def opcodeRows7 : List OpcodeRow :=
  [ docRow .bvs .rel 2 .none,
    docRowX .adc .izy 5 .read,
    undocRow .jam .imp 0 .none,
    undocRow .rra .izy 8 .rmw,
    undocRow .nop .zpx 4 .read,
    docRow .adc .zpx 4 .read,
    docRow .ror .zpx 6 .rmw,
    undocRow .rra .zpx 6 .rmw,
    docRow .sei .imp 2 .none,
    docRowX .adc .aby 4 .read,
    undocRow .nop .imp 2 .none,
    undocRow .rra .aby 7 .rmw,
    undocRowX .nop .abx 4 .read,
    docRowX .adc .abx 4 .read,
    docRow .ror .abx 7 .rmw,
    undocRow .rra .abx 7 .rmw ]

/-- Row 8x of the opcode matrix (R115), columns 0 to F. A JAM entry has 0 base cycles: it never completes (R119). -/
def opcodeRows8 : List OpcodeRow :=
  [ undocRow .nop .imm 2 .read,
    docRow .sta .izx 6 .write,
    undocRow .nop .imm 2 .read,
    undocRow .sax .izx 6 .write,
    docRow .sty .zp 3 .write,
    docRow .sta .zp 3 .write,
    docRow .stx .zp 3 .write,
    undocRow .sax .zp 3 .write,
    docRow .dey .imp 2 .none,
    undocRow .nop .imm 2 .read,
    docRow .txa .imp 2 .none,
    undocRow .ane .imm 2 .read,
    docRow .sty .abs 4 .write,
    docRow .sta .abs 4 .write,
    docRow .stx .abs 4 .write,
    undocRow .sax .abs 4 .write ]

/-- Row 9x of the opcode matrix (R115), columns 0 to F. A JAM entry has 0 base cycles: it never completes (R119). -/
def opcodeRows9 : List OpcodeRow :=
  [ docRow .bcc .rel 2 .none,
    docRow .sta .izy 6 .write,
    undocRow .jam .imp 0 .none,
    undocRow .sha .izy 6 .write,
    docRow .sty .zpx 4 .write,
    docRow .sta .zpx 4 .write,
    docRow .stx .zpy 4 .write,
    undocRow .sax .zpy 4 .write,
    docRow .tya .imp 2 .none,
    docRow .sta .aby 5 .write,
    docRow .txs .imp 2 .none,
    undocRow .tas .aby 5 .write,
    undocRow .shy .abx 5 .write,
    docRow .sta .abx 5 .write,
    undocRow .shx .aby 5 .write,
    undocRow .sha .aby 5 .write ]

/-- Row Ax of the opcode matrix (R115), columns 0 to F. A JAM entry has 0 base cycles: it never completes (R119). -/
def opcodeRowsA : List OpcodeRow :=
  [ docRow .ldy .imm 2 .read,
    docRow .lda .izx 6 .read,
    docRow .ldx .imm 2 .read,
    undocRow .lax .izx 6 .read,
    docRow .ldy .zp 3 .read,
    docRow .lda .zp 3 .read,
    docRow .ldx .zp 3 .read,
    undocRow .lax .zp 3 .read,
    docRow .tay .imp 2 .none,
    docRow .lda .imm 2 .read,
    docRow .tax .imp 2 .none,
    undocRow .lxa .imm 2 .read,
    docRow .ldy .abs 4 .read,
    docRow .lda .abs 4 .read,
    docRow .ldx .abs 4 .read,
    undocRow .lax .abs 4 .read ]

/-- Row Bx of the opcode matrix (R115), columns 0 to F. A JAM entry has 0 base cycles: it never completes (R119). -/
def opcodeRowsB : List OpcodeRow :=
  [ docRow .bcs .rel 2 .none,
    docRowX .lda .izy 5 .read,
    undocRow .jam .imp 0 .none,
    undocRowX .lax .izy 5 .read,
    docRow .ldy .zpx 4 .read,
    docRow .lda .zpx 4 .read,
    docRow .ldx .zpy 4 .read,
    undocRow .lax .zpy 4 .read,
    docRow .clv .imp 2 .none,
    docRowX .lda .aby 4 .read,
    docRow .tsx .imp 2 .none,
    undocRowX .las .aby 4 .read,
    docRowX .ldy .abx 4 .read,
    docRowX .lda .abx 4 .read,
    docRowX .ldx .aby 4 .read,
    undocRowX .lax .aby 4 .read ]

/-- Row Cx of the opcode matrix (R115), columns 0 to F. A JAM entry has 0 base cycles: it never completes (R119). -/
def opcodeRowsC : List OpcodeRow :=
  [ docRow .cpy .imm 2 .read,
    docRow .cmp .izx 6 .read,
    undocRow .nop .imm 2 .read,
    undocRow .dcp .izx 8 .rmw,
    docRow .cpy .zp 3 .read,
    docRow .cmp .zp 3 .read,
    docRow .dec .zp 5 .rmw,
    undocRow .dcp .zp 5 .rmw,
    docRow .iny .imp 2 .none,
    docRow .cmp .imm 2 .read,
    docRow .dex .imp 2 .none,
    undocRow .sbx .imm 2 .read,
    docRow .cpy .abs 4 .read,
    docRow .cmp .abs 4 .read,
    docRow .dec .abs 6 .rmw,
    undocRow .dcp .abs 6 .rmw ]

/-- Row Dx of the opcode matrix (R115), columns 0 to F. A JAM entry has 0 base cycles: it never completes (R119). -/
def opcodeRowsD : List OpcodeRow :=
  [ docRow .bne .rel 2 .none,
    docRowX .cmp .izy 5 .read,
    undocRow .jam .imp 0 .none,
    undocRow .dcp .izy 8 .rmw,
    undocRow .nop .zpx 4 .read,
    docRow .cmp .zpx 4 .read,
    docRow .dec .zpx 6 .rmw,
    undocRow .dcp .zpx 6 .rmw,
    docRow .cld .imp 2 .none,
    docRowX .cmp .aby 4 .read,
    undocRow .nop .imp 2 .none,
    undocRow .dcp .aby 7 .rmw,
    undocRowX .nop .abx 4 .read,
    docRowX .cmp .abx 4 .read,
    docRow .dec .abx 7 .rmw,
    undocRow .dcp .abx 7 .rmw ]

/-- Row Ex of the opcode matrix (R115), columns 0 to F. A JAM entry has 0 base cycles: it never completes (R119). -/
def opcodeRowsE : List OpcodeRow :=
  [ docRow .cpx .imm 2 .read,
    docRow .sbc .izx 6 .read,
    undocRow .nop .imm 2 .read,
    undocRow .isc .izx 8 .rmw,
    docRow .cpx .zp 3 .read,
    docRow .sbc .zp 3 .read,
    docRow .inc .zp 5 .rmw,
    undocRow .isc .zp 5 .rmw,
    docRow .inx .imp 2 .none,
    docRow .sbc .imm 2 .read,
    docRow .nop .imp 2 .none,
    undocRow .usbc .imm 2 .read,
    docRow .cpx .abs 4 .read,
    docRow .sbc .abs 4 .read,
    docRow .inc .abs 6 .rmw,
    undocRow .isc .abs 6 .rmw ]

/-- Row Fx of the opcode matrix (R115), columns 0 to F. A JAM entry has 0 base cycles: it never completes (R119). -/
def opcodeRowsF : List OpcodeRow :=
  [ docRow .beq .rel 2 .none,
    docRowX .sbc .izy 5 .read,
    undocRow .jam .imp 0 .none,
    undocRow .isc .izy 8 .rmw,
    undocRow .nop .zpx 4 .read,
    docRow .sbc .zpx 4 .read,
    docRow .inc .zpx 6 .rmw,
    undocRow .isc .zpx 6 .rmw,
    docRow .sed .imp 2 .none,
    docRowX .sbc .aby 4 .read,
    undocRow .nop .imp 2 .none,
    undocRow .isc .aby 7 .rmw,
    undocRowX .nop .abx 4 .read,
    docRowX .sbc .abx 4 .read,
    docRow .inc .abx 7 .rmw,
    undocRow .isc .abx 7 .rmw ]

/-- The row of the opcode matrix that a high nibble selects. -/
def opcodeRowsOf : Nat → List OpcodeRow
  | 0 => opcodeRows0
  | 1 => opcodeRows1
  | 2 => opcodeRows2
  | 3 => opcodeRows3
  | 4 => opcodeRows4
  | 5 => opcodeRows5
  | 6 => opcodeRows6
  | 7 => opcodeRows7
  | 8 => opcodeRows8
  | 9 => opcodeRows9
  | 10 => opcodeRowsA
  | 11 => opcodeRowsB
  | 12 => opcodeRowsC
  | 13 => opcodeRowsD
  | 14 => opcodeRowsE
  | 15 => opcodeRowsF
  | _ => []

/-- The opcode table: the entry of an opcode byte (R114). It answers none for no byte (R118, R122); the option is the
document's unreachable unknown-opcode arm (60_exceptions.md R423). -/
def opcodeRow (op : Byte) : Option OpcodeRow := (opcodeRowsOf (op.toNat / 16))[op.toNat % 16]?

/-- Why bytes do not decode. -/
inductive DecodeError where
  /-- No byte at all. -/
  | noBytes
  /-- The instruction of this opcode has more bytes than there are. -/
  | truncated (opcode : Byte)
  /-- A byte with no entry in the opcode table: none exists (R122, R423). -/
  | unknownOpcode (opcode : Byte)
  deriving DecidableEq, Repr

/-- Decode, opcode bytes 00 to 0F: the instruction of low nibble `l` with operand bytes `b` (and `c`), low byte first (R111, R113, R115). -/
def decodeRow0 (l : Nat) (b c : Byte) : Option Instr :=
  match l with
  | 0 => some .brk
  | 1 => some (.oraIzx b)
  | 2 => some (.jam 0)
  | 3 => some (.sloIzx b)
  | 4 => some (.nopZp 0 b)
  | 5 => some (.oraZp b)
  | 6 => some (.aslZp b)
  | 7 => some (.sloZp b)
  | 8 => some .php
  | 9 => some (.oraImm b)
  | 10 => some .aslAcc
  | 11 => some (.anc 0 b)
  | 12 => some (.nopAbs (w16 c b))
  | 13 => some (.oraAbs (w16 c b))
  | 14 => some (.aslAbs (w16 c b))
  | 15 => some (.sloAbs (w16 c b))
  | _ => none

/-- Decode, opcode bytes 10 to 1F: the instruction of low nibble `l` with operand bytes `b` (and `c`), low byte first (R111, R113, R115). -/
def decodeRow1 (l : Nat) (b c : Byte) : Option Instr :=
  match l with
  | 0 => some (.bpl b)
  | 1 => some (.oraIzy b)
  | 2 => some (.jam 1)
  | 3 => some (.sloIzy b)
  | 4 => some (.nopZpx 0 b)
  | 5 => some (.oraZpx b)
  | 6 => some (.aslZpx b)
  | 7 => some (.sloZpx b)
  | 8 => some .clc
  | 9 => some (.oraAby (w16 c b))
  | 10 => some (.nopImp 0)
  | 11 => some (.sloAby (w16 c b))
  | 12 => some (.nopAbx 0 (w16 c b))
  | 13 => some (.oraAbx (w16 c b))
  | 14 => some (.aslAbx (w16 c b))
  | 15 => some (.sloAbx (w16 c b))
  | _ => none

/-- Decode, opcode bytes 20 to 2F: the instruction of low nibble `l` with operand bytes `b` (and `c`), low byte first (R111, R113, R115). -/
def decodeRow2 (l : Nat) (b c : Byte) : Option Instr :=
  match l with
  | 0 => some (.jsr (w16 c b))
  | 1 => some (.andIzx b)
  | 2 => some (.jam 2)
  | 3 => some (.rlaIzx b)
  | 4 => some (.bitZp b)
  | 5 => some (.andZp b)
  | 6 => some (.rolZp b)
  | 7 => some (.rlaZp b)
  | 8 => some .plp
  | 9 => some (.andImm b)
  | 10 => some .rolAcc
  | 11 => some (.anc 1 b)
  | 12 => some (.bitAbs (w16 c b))
  | 13 => some (.andAbs (w16 c b))
  | 14 => some (.rolAbs (w16 c b))
  | 15 => some (.rlaAbs (w16 c b))
  | _ => none

/-- Decode, opcode bytes 30 to 3F: the instruction of low nibble `l` with operand bytes `b` (and `c`), low byte first (R111, R113, R115). -/
def decodeRow3 (l : Nat) (b c : Byte) : Option Instr :=
  match l with
  | 0 => some (.bmi b)
  | 1 => some (.andIzy b)
  | 2 => some (.jam 3)
  | 3 => some (.rlaIzy b)
  | 4 => some (.nopZpx 1 b)
  | 5 => some (.andZpx b)
  | 6 => some (.rolZpx b)
  | 7 => some (.rlaZpx b)
  | 8 => some .sec
  | 9 => some (.andAby (w16 c b))
  | 10 => some (.nopImp 1)
  | 11 => some (.rlaAby (w16 c b))
  | 12 => some (.nopAbx 1 (w16 c b))
  | 13 => some (.andAbx (w16 c b))
  | 14 => some (.rolAbx (w16 c b))
  | 15 => some (.rlaAbx (w16 c b))
  | _ => none

/-- Decode, opcode bytes 40 to 4F: the instruction of low nibble `l` with operand bytes `b` (and `c`), low byte first (R111, R113, R115). -/
def decodeRow4 (l : Nat) (b c : Byte) : Option Instr :=
  match l with
  | 0 => some .rti
  | 1 => some (.eorIzx b)
  | 2 => some (.jam 4)
  | 3 => some (.sreIzx b)
  | 4 => some (.nopZp 1 b)
  | 5 => some (.eorZp b)
  | 6 => some (.lsrZp b)
  | 7 => some (.sreZp b)
  | 8 => some .pha
  | 9 => some (.eorImm b)
  | 10 => some .lsrAcc
  | 11 => some (.alr b)
  | 12 => some (.jmpAbs (w16 c b))
  | 13 => some (.eorAbs (w16 c b))
  | 14 => some (.lsrAbs (w16 c b))
  | 15 => some (.sreAbs (w16 c b))
  | _ => none

/-- Decode, opcode bytes 50 to 5F: the instruction of low nibble `l` with operand bytes `b` (and `c`), low byte first (R111, R113, R115). -/
def decodeRow5 (l : Nat) (b c : Byte) : Option Instr :=
  match l with
  | 0 => some (.bvc b)
  | 1 => some (.eorIzy b)
  | 2 => some (.jam 5)
  | 3 => some (.sreIzy b)
  | 4 => some (.nopZpx 2 b)
  | 5 => some (.eorZpx b)
  | 6 => some (.lsrZpx b)
  | 7 => some (.sreZpx b)
  | 8 => some .cli
  | 9 => some (.eorAby (w16 c b))
  | 10 => some (.nopImp 2)
  | 11 => some (.sreAby (w16 c b))
  | 12 => some (.nopAbx 2 (w16 c b))
  | 13 => some (.eorAbx (w16 c b))
  | 14 => some (.lsrAbx (w16 c b))
  | 15 => some (.sreAbx (w16 c b))
  | _ => none

/-- Decode, opcode bytes 60 to 6F: the instruction of low nibble `l` with operand bytes `b` (and `c`), low byte first (R111, R113, R115). -/
def decodeRow6 (l : Nat) (b c : Byte) : Option Instr :=
  match l with
  | 0 => some .rts
  | 1 => some (.adcIzx b)
  | 2 => some (.jam 6)
  | 3 => some (.rraIzx b)
  | 4 => some (.nopZp 2 b)
  | 5 => some (.adcZp b)
  | 6 => some (.rorZp b)
  | 7 => some (.rraZp b)
  | 8 => some .pla
  | 9 => some (.adcImm b)
  | 10 => some .rorAcc
  | 11 => some (.arr b)
  | 12 => some (.jmpInd (w16 c b))
  | 13 => some (.adcAbs (w16 c b))
  | 14 => some (.rorAbs (w16 c b))
  | 15 => some (.rraAbs (w16 c b))
  | _ => none

/-- Decode, opcode bytes 70 to 7F: the instruction of low nibble `l` with operand bytes `b` (and `c`), low byte first (R111, R113, R115). -/
def decodeRow7 (l : Nat) (b c : Byte) : Option Instr :=
  match l with
  | 0 => some (.bvs b)
  | 1 => some (.adcIzy b)
  | 2 => some (.jam 7)
  | 3 => some (.rraIzy b)
  | 4 => some (.nopZpx 3 b)
  | 5 => some (.adcZpx b)
  | 6 => some (.rorZpx b)
  | 7 => some (.rraZpx b)
  | 8 => some .sei
  | 9 => some (.adcAby (w16 c b))
  | 10 => some (.nopImp 3)
  | 11 => some (.rraAby (w16 c b))
  | 12 => some (.nopAbx 3 (w16 c b))
  | 13 => some (.adcAbx (w16 c b))
  | 14 => some (.rorAbx (w16 c b))
  | 15 => some (.rraAbx (w16 c b))
  | _ => none

/-- Decode, opcode bytes 80 to 8F: the instruction of low nibble `l` with operand bytes `b` (and `c`), low byte first (R111, R113, R115). -/
def decodeRow8 (l : Nat) (b c : Byte) : Option Instr :=
  match l with
  | 0 => some (.nopImm 0 b)
  | 1 => some (.staIzx b)
  | 2 => some (.nopImm 1 b)
  | 3 => some (.saxIzx b)
  | 4 => some (.styZp b)
  | 5 => some (.staZp b)
  | 6 => some (.stxZp b)
  | 7 => some (.saxZp b)
  | 8 => some .dey
  | 9 => some (.nopImm 2 b)
  | 10 => some .txa
  | 11 => some (.ane b)
  | 12 => some (.styAbs (w16 c b))
  | 13 => some (.staAbs (w16 c b))
  | 14 => some (.stxAbs (w16 c b))
  | 15 => some (.saxAbs (w16 c b))
  | _ => none

/-- Decode, opcode bytes 90 to 9F: the instruction of low nibble `l` with operand bytes `b` (and `c`), low byte first (R111, R113, R115). -/
def decodeRow9 (l : Nat) (b c : Byte) : Option Instr :=
  match l with
  | 0 => some (.bcc b)
  | 1 => some (.staIzy b)
  | 2 => some (.jam 8)
  | 3 => some (.shaIzy b)
  | 4 => some (.styZpx b)
  | 5 => some (.staZpx b)
  | 6 => some (.stxZpy b)
  | 7 => some (.saxZpy b)
  | 8 => some .tya
  | 9 => some (.staAby (w16 c b))
  | 10 => some .txs
  | 11 => some (.tas (w16 c b))
  | 12 => some (.shy (w16 c b))
  | 13 => some (.staAbx (w16 c b))
  | 14 => some (.shx (w16 c b))
  | 15 => some (.shaAby (w16 c b))
  | _ => none

/-- Decode, opcode bytes A0 to AF: the instruction of low nibble `l` with operand bytes `b` (and `c`), low byte first (R111, R113, R115). -/
def decodeRowA (l : Nat) (b c : Byte) : Option Instr :=
  match l with
  | 0 => some (.ldyImm b)
  | 1 => some (.ldaIzx b)
  | 2 => some (.ldxImm b)
  | 3 => some (.laxIzx b)
  | 4 => some (.ldyZp b)
  | 5 => some (.ldaZp b)
  | 6 => some (.ldxZp b)
  | 7 => some (.laxZp b)
  | 8 => some .tay
  | 9 => some (.ldaImm b)
  | 10 => some .tax
  | 11 => some (.lxa b)
  | 12 => some (.ldyAbs (w16 c b))
  | 13 => some (.ldaAbs (w16 c b))
  | 14 => some (.ldxAbs (w16 c b))
  | 15 => some (.laxAbs (w16 c b))
  | _ => none

/-- Decode, opcode bytes B0 to BF: the instruction of low nibble `l` with operand bytes `b` (and `c`), low byte first (R111, R113, R115). -/
def decodeRowB (l : Nat) (b c : Byte) : Option Instr :=
  match l with
  | 0 => some (.bcs b)
  | 1 => some (.ldaIzy b)
  | 2 => some (.jam 9)
  | 3 => some (.laxIzy b)
  | 4 => some (.ldyZpx b)
  | 5 => some (.ldaZpx b)
  | 6 => some (.ldxZpy b)
  | 7 => some (.laxZpy b)
  | 8 => some .clv
  | 9 => some (.ldaAby (w16 c b))
  | 10 => some .tsx
  | 11 => some (.las (w16 c b))
  | 12 => some (.ldyAbx (w16 c b))
  | 13 => some (.ldaAbx (w16 c b))
  | 14 => some (.ldxAby (w16 c b))
  | 15 => some (.laxAby (w16 c b))
  | _ => none

/-- Decode, opcode bytes C0 to CF: the instruction of low nibble `l` with operand bytes `b` (and `c`), low byte first (R111, R113, R115). -/
def decodeRowC (l : Nat) (b c : Byte) : Option Instr :=
  match l with
  | 0 => some (.cpyImm b)
  | 1 => some (.cmpIzx b)
  | 2 => some (.nopImm 3 b)
  | 3 => some (.dcpIzx b)
  | 4 => some (.cpyZp b)
  | 5 => some (.cmpZp b)
  | 6 => some (.decZp b)
  | 7 => some (.dcpZp b)
  | 8 => some .iny
  | 9 => some (.cmpImm b)
  | 10 => some .dex
  | 11 => some (.sbx b)
  | 12 => some (.cpyAbs (w16 c b))
  | 13 => some (.cmpAbs (w16 c b))
  | 14 => some (.decAbs (w16 c b))
  | 15 => some (.dcpAbs (w16 c b))
  | _ => none

/-- Decode, opcode bytes D0 to DF: the instruction of low nibble `l` with operand bytes `b` (and `c`), low byte first (R111, R113, R115). -/
def decodeRowD (l : Nat) (b c : Byte) : Option Instr :=
  match l with
  | 0 => some (.bne b)
  | 1 => some (.cmpIzy b)
  | 2 => some (.jam 10)
  | 3 => some (.dcpIzy b)
  | 4 => some (.nopZpx 4 b)
  | 5 => some (.cmpZpx b)
  | 6 => some (.decZpx b)
  | 7 => some (.dcpZpx b)
  | 8 => some .cld
  | 9 => some (.cmpAby (w16 c b))
  | 10 => some (.nopImp 4)
  | 11 => some (.dcpAby (w16 c b))
  | 12 => some (.nopAbx 4 (w16 c b))
  | 13 => some (.cmpAbx (w16 c b))
  | 14 => some (.decAbx (w16 c b))
  | 15 => some (.dcpAbx (w16 c b))
  | _ => none

/-- Decode, opcode bytes E0 to EF: the instruction of low nibble `l` with operand bytes `b` (and `c`), low byte first (R111, R113, R115). -/
def decodeRowE (l : Nat) (b c : Byte) : Option Instr :=
  match l with
  | 0 => some (.cpxImm b)
  | 1 => some (.sbcIzx b)
  | 2 => some (.nopImm 4 b)
  | 3 => some (.iscIzx b)
  | 4 => some (.cpxZp b)
  | 5 => some (.sbcZp b)
  | 6 => some (.incZp b)
  | 7 => some (.iscZp b)
  | 8 => some .inx
  | 9 => some (.sbcImm b)
  | 10 => some .nop
  | 11 => some (.usbc b)
  | 12 => some (.cpxAbs (w16 c b))
  | 13 => some (.sbcAbs (w16 c b))
  | 14 => some (.incAbs (w16 c b))
  | 15 => some (.iscAbs (w16 c b))
  | _ => none

/-- Decode, opcode bytes F0 to FF: the instruction of low nibble `l` with operand bytes `b` (and `c`), low byte first (R111, R113, R115). -/
def decodeRowF (l : Nat) (b c : Byte) : Option Instr :=
  match l with
  | 0 => some (.beq b)
  | 1 => some (.sbcIzy b)
  | 2 => some (.jam 11)
  | 3 => some (.iscIzy b)
  | 4 => some (.nopZpx 5 b)
  | 5 => some (.sbcZpx b)
  | 6 => some (.incZpx b)
  | 7 => some (.iscZpx b)
  | 8 => some .sed
  | 9 => some (.sbcAby (w16 c b))
  | 10 => some (.nopImp 5)
  | 11 => some (.iscAby (w16 c b))
  | 12 => some (.nopAbx 5 (w16 c b))
  | 13 => some (.sbcAbx (w16 c b))
  | 14 => some (.incAbx (w16 c b))
  | 15 => some (.iscAbx (w16 c b))
  | _ => none

/-- The instruction that an opcode byte and the two bytes after it make. -/
def decodeOpcode (op b c : Byte) : Option Instr :=
  match op.toNat / 16 with
  | 0 => decodeRow0 (op.toNat % 16) b c
  | 1 => decodeRow1 (op.toNat % 16) b c
  | 2 => decodeRow2 (op.toNat % 16) b c
  | 3 => decodeRow3 (op.toNat % 16) b c
  | 4 => decodeRow4 (op.toNat % 16) b c
  | 5 => decodeRow5 (op.toNat % 16) b c
  | 6 => decodeRow6 (op.toNat % 16) b c
  | 7 => decodeRow7 (op.toNat % 16) b c
  | 8 => decodeRow8 (op.toNat % 16) b c
  | 9 => decodeRow9 (op.toNat % 16) b c
  | 10 => decodeRowA (op.toNat % 16) b c
  | 11 => decodeRowB (op.toNat % 16) b c
  | 12 => decodeRowC (op.toNat % 16) b c
  | 13 => decodeRowD (op.toNat % 16) b c
  | 14 => decodeRowE (op.toNat % 16) b c
  | 15 => decodeRowF (op.toNat % 16) b c
  | _ => none

/-- How many bytes the instruction of an opcode byte has (R110): the length of its addressing mode. -/
def lengthOfOpcode (op : Byte) : Nat :=
  match opcodeRow op with
  | some row => row.mode.length
  | none => 1

/-- The decoder: the first instruction of a byte list and the bytes after it, or the reason there is none (R110). -/
def decode : List Byte → Except DecodeError (Instr × List Byte)
  | [] => .error .noBytes
  | op :: rest =>
    if rest.length + 1 < lengthOfOpcode op then .error (.truncated op)
    else
      match decodeOpcode op (rest.getD 0 0#8) (rest.getD 1 0#8) with
      | some i => .ok (i, rest.drop (lengthOfOpcode op - 1))
      | none => .error (.unknownOpcode op)

/-- The opcode bytes that share the mnemonic JAM and the mode imp, in rising order (R117). -/
def jamOpcode : Fin 12 → Byte
  | 0 => 0x02#8
  | 1 => 0x12#8
  | 2 => 0x22#8
  | 3 => 0x32#8
  | 4 => 0x42#8
  | 5 => 0x52#8
  | 6 => 0x62#8
  | 7 => 0x72#8
  | 8 => 0x92#8
  | 9 => 0xB2#8
  | 10 => 0xD2#8
  | 11 => 0xF2#8

/-- The opcode bytes that share the mnemonic NOP and the mode zp, in rising order (R117). -/
def nopZpOpcode : Fin 3 → Byte
  | 0 => 0x04#8
  | 1 => 0x44#8
  | 2 => 0x64#8

/-- The opcode bytes that share the mnemonic ANC and the mode imm, in rising order (R117). -/
def ancOpcode : Fin 2 → Byte
  | 0 => 0x0B#8
  | 1 => 0x2B#8

/-- The opcode bytes that share the mnemonic NOP and the mode zpx, in rising order (R117). -/
def nopZpxOpcode : Fin 6 → Byte
  | 0 => 0x14#8
  | 1 => 0x34#8
  | 2 => 0x54#8
  | 3 => 0x74#8
  | 4 => 0xD4#8
  | 5 => 0xF4#8

/-- The opcode bytes that share the mnemonic NOP and the mode imp, in rising order (R117). -/
def nopImpOpcode : Fin 6 → Byte
  | 0 => 0x1A#8
  | 1 => 0x3A#8
  | 2 => 0x5A#8
  | 3 => 0x7A#8
  | 4 => 0xDA#8
  | 5 => 0xFA#8

/-- The opcode bytes that share the mnemonic NOP and the mode abx, in rising order (R117). -/
def nopAbxOpcode : Fin 6 → Byte
  | 0 => 0x1C#8
  | 1 => 0x3C#8
  | 2 => 0x5C#8
  | 3 => 0x7C#8
  | 4 => 0xDC#8
  | 5 => 0xFC#8

/-- The opcode bytes that share the mnemonic NOP and the mode imm, in rising order (R117). -/
def nopImmOpcode : Fin 5 → Byte
  | 0 => 0x80#8
  | 1 => 0x82#8
  | 2 => 0x89#8
  | 3 => 0xC2#8
  | 4 => 0xE2#8

/-- The opcode byte of an instruction (R115). -/
def Instr.opcode : Instr → Byte
  | .brk => 0x00#8
  | .oraIzx _ => 0x01#8
  | .jam k => jamOpcode k
  | .sloIzx _ => 0x03#8
  | .nopZp k _ => nopZpOpcode k
  | .oraZp _ => 0x05#8
  | .aslZp _ => 0x06#8
  | .sloZp _ => 0x07#8
  | .php => 0x08#8
  | .oraImm _ => 0x09#8
  | .aslAcc => 0x0A#8
  | .anc k _ => ancOpcode k
  | .nopAbs _ => 0x0C#8
  | .oraAbs _ => 0x0D#8
  | .aslAbs _ => 0x0E#8
  | .sloAbs _ => 0x0F#8
  | .bpl _ => 0x10#8
  | .oraIzy _ => 0x11#8
  | .sloIzy _ => 0x13#8
  | .nopZpx k _ => nopZpxOpcode k
  | .oraZpx _ => 0x15#8
  | .aslZpx _ => 0x16#8
  | .sloZpx _ => 0x17#8
  | .clc => 0x18#8
  | .oraAby _ => 0x19#8
  | .nopImp k => nopImpOpcode k
  | .sloAby _ => 0x1B#8
  | .nopAbx k _ => nopAbxOpcode k
  | .oraAbx _ => 0x1D#8
  | .aslAbx _ => 0x1E#8
  | .sloAbx _ => 0x1F#8
  | .jsr _ => 0x20#8
  | .andIzx _ => 0x21#8
  | .rlaIzx _ => 0x23#8
  | .bitZp _ => 0x24#8
  | .andZp _ => 0x25#8
  | .rolZp _ => 0x26#8
  | .rlaZp _ => 0x27#8
  | .plp => 0x28#8
  | .andImm _ => 0x29#8
  | .rolAcc => 0x2A#8
  | .bitAbs _ => 0x2C#8
  | .andAbs _ => 0x2D#8
  | .rolAbs _ => 0x2E#8
  | .rlaAbs _ => 0x2F#8
  | .bmi _ => 0x30#8
  | .andIzy _ => 0x31#8
  | .rlaIzy _ => 0x33#8
  | .andZpx _ => 0x35#8
  | .rolZpx _ => 0x36#8
  | .rlaZpx _ => 0x37#8
  | .sec => 0x38#8
  | .andAby _ => 0x39#8
  | .rlaAby _ => 0x3B#8
  | .andAbx _ => 0x3D#8
  | .rolAbx _ => 0x3E#8
  | .rlaAbx _ => 0x3F#8
  | .rti => 0x40#8
  | .eorIzx _ => 0x41#8
  | .sreIzx _ => 0x43#8
  | .eorZp _ => 0x45#8
  | .lsrZp _ => 0x46#8
  | .sreZp _ => 0x47#8
  | .pha => 0x48#8
  | .eorImm _ => 0x49#8
  | .lsrAcc => 0x4A#8
  | .alr _ => 0x4B#8
  | .jmpAbs _ => 0x4C#8
  | .eorAbs _ => 0x4D#8
  | .lsrAbs _ => 0x4E#8
  | .sreAbs _ => 0x4F#8
  | .bvc _ => 0x50#8
  | .eorIzy _ => 0x51#8
  | .sreIzy _ => 0x53#8
  | .eorZpx _ => 0x55#8
  | .lsrZpx _ => 0x56#8
  | .sreZpx _ => 0x57#8
  | .cli => 0x58#8
  | .eorAby _ => 0x59#8
  | .sreAby _ => 0x5B#8
  | .eorAbx _ => 0x5D#8
  | .lsrAbx _ => 0x5E#8
  | .sreAbx _ => 0x5F#8
  | .rts => 0x60#8
  | .adcIzx _ => 0x61#8
  | .rraIzx _ => 0x63#8
  | .adcZp _ => 0x65#8
  | .rorZp _ => 0x66#8
  | .rraZp _ => 0x67#8
  | .pla => 0x68#8
  | .adcImm _ => 0x69#8
  | .rorAcc => 0x6A#8
  | .arr _ => 0x6B#8
  | .jmpInd _ => 0x6C#8
  | .adcAbs _ => 0x6D#8
  | .rorAbs _ => 0x6E#8
  | .rraAbs _ => 0x6F#8
  | .bvs _ => 0x70#8
  | .adcIzy _ => 0x71#8
  | .rraIzy _ => 0x73#8
  | .adcZpx _ => 0x75#8
  | .rorZpx _ => 0x76#8
  | .rraZpx _ => 0x77#8
  | .sei => 0x78#8
  | .adcAby _ => 0x79#8
  | .rraAby _ => 0x7B#8
  | .adcAbx _ => 0x7D#8
  | .rorAbx _ => 0x7E#8
  | .rraAbx _ => 0x7F#8
  | .nopImm k _ => nopImmOpcode k
  | .staIzx _ => 0x81#8
  | .saxIzx _ => 0x83#8
  | .styZp _ => 0x84#8
  | .staZp _ => 0x85#8
  | .stxZp _ => 0x86#8
  | .saxZp _ => 0x87#8
  | .dey => 0x88#8
  | .txa => 0x8A#8
  | .ane _ => 0x8B#8
  | .styAbs _ => 0x8C#8
  | .staAbs _ => 0x8D#8
  | .stxAbs _ => 0x8E#8
  | .saxAbs _ => 0x8F#8
  | .bcc _ => 0x90#8
  | .staIzy _ => 0x91#8
  | .shaIzy _ => 0x93#8
  | .styZpx _ => 0x94#8
  | .staZpx _ => 0x95#8
  | .stxZpy _ => 0x96#8
  | .saxZpy _ => 0x97#8
  | .tya => 0x98#8
  | .staAby _ => 0x99#8
  | .txs => 0x9A#8
  | .tas _ => 0x9B#8
  | .shy _ => 0x9C#8
  | .staAbx _ => 0x9D#8
  | .shx _ => 0x9E#8
  | .shaAby _ => 0x9F#8
  | .ldyImm _ => 0xA0#8
  | .ldaIzx _ => 0xA1#8
  | .ldxImm _ => 0xA2#8
  | .laxIzx _ => 0xA3#8
  | .ldyZp _ => 0xA4#8
  | .ldaZp _ => 0xA5#8
  | .ldxZp _ => 0xA6#8
  | .laxZp _ => 0xA7#8
  | .tay => 0xA8#8
  | .ldaImm _ => 0xA9#8
  | .tax => 0xAA#8
  | .lxa _ => 0xAB#8
  | .ldyAbs _ => 0xAC#8
  | .ldaAbs _ => 0xAD#8
  | .ldxAbs _ => 0xAE#8
  | .laxAbs _ => 0xAF#8
  | .bcs _ => 0xB0#8
  | .ldaIzy _ => 0xB1#8
  | .laxIzy _ => 0xB3#8
  | .ldyZpx _ => 0xB4#8
  | .ldaZpx _ => 0xB5#8
  | .ldxZpy _ => 0xB6#8
  | .laxZpy _ => 0xB7#8
  | .clv => 0xB8#8
  | .ldaAby _ => 0xB9#8
  | .tsx => 0xBA#8
  | .las _ => 0xBB#8
  | .ldyAbx _ => 0xBC#8
  | .ldaAbx _ => 0xBD#8
  | .ldxAby _ => 0xBE#8
  | .laxAby _ => 0xBF#8
  | .cpyImm _ => 0xC0#8
  | .cmpIzx _ => 0xC1#8
  | .dcpIzx _ => 0xC3#8
  | .cpyZp _ => 0xC4#8
  | .cmpZp _ => 0xC5#8
  | .decZp _ => 0xC6#8
  | .dcpZp _ => 0xC7#8
  | .iny => 0xC8#8
  | .cmpImm _ => 0xC9#8
  | .dex => 0xCA#8
  | .sbx _ => 0xCB#8
  | .cpyAbs _ => 0xCC#8
  | .cmpAbs _ => 0xCD#8
  | .decAbs _ => 0xCE#8
  | .dcpAbs _ => 0xCF#8
  | .bne _ => 0xD0#8
  | .cmpIzy _ => 0xD1#8
  | .dcpIzy _ => 0xD3#8
  | .cmpZpx _ => 0xD5#8
  | .decZpx _ => 0xD6#8
  | .dcpZpx _ => 0xD7#8
  | .cld => 0xD8#8
  | .cmpAby _ => 0xD9#8
  | .dcpAby _ => 0xDB#8
  | .cmpAbx _ => 0xDD#8
  | .decAbx _ => 0xDE#8
  | .dcpAbx _ => 0xDF#8
  | .cpxImm _ => 0xE0#8
  | .sbcIzx _ => 0xE1#8
  | .iscIzx _ => 0xE3#8
  | .cpxZp _ => 0xE4#8
  | .sbcZp _ => 0xE5#8
  | .incZp _ => 0xE6#8
  | .iscZp _ => 0xE7#8
  | .inx => 0xE8#8
  | .sbcImm _ => 0xE9#8
  | .nop => 0xEA#8
  | .usbc _ => 0xEB#8
  | .cpxAbs _ => 0xEC#8
  | .sbcAbs _ => 0xED#8
  | .incAbs _ => 0xEE#8
  | .iscAbs _ => 0xEF#8
  | .beq _ => 0xF0#8
  | .sbcIzy _ => 0xF1#8
  | .iscIzy _ => 0xF3#8
  | .sbcZpx _ => 0xF5#8
  | .incZpx _ => 0xF6#8
  | .iscZpx _ => 0xF7#8
  | .sed => 0xF8#8
  | .sbcAby _ => 0xF9#8
  | .iscAby _ => 0xFB#8
  | .sbcAbx _ => 0xFD#8
  | .incAbx _ => 0xFE#8
  | .iscAbx _ => 0xFF#8

/-- The operand of an instruction (R112, R113). -/
def Instr.operand : Instr → Operand
  | .brk => .imp
  | .oraIzx z => .mem (.izx z)
  | .jam _ => .imp
  | .sloIzx z => .mem (.izx z)
  | .nopZp _ z => .mem (.zp z)
  | .oraZp z => .mem (.zp z)
  | .aslZp z => .mem (.zp z)
  | .sloZp z => .mem (.zp z)
  | .php => .imp
  | .oraImm d => .imm d
  | .aslAcc => .acc
  | .anc _ d => .imm d
  | .nopAbs a => .mem (.abs a)
  | .oraAbs a => .mem (.abs a)
  | .aslAbs a => .mem (.abs a)
  | .sloAbs a => .mem (.abs a)
  | .bpl d => .rel d
  | .oraIzy z => .mem (.izy z)
  | .sloIzy z => .mem (.izy z)
  | .nopZpx _ z => .mem (.zpx z)
  | .oraZpx z => .mem (.zpx z)
  | .aslZpx z => .mem (.zpx z)
  | .sloZpx z => .mem (.zpx z)
  | .clc => .imp
  | .oraAby a => .mem (.aby a)
  | .nopImp _ => .imp
  | .sloAby a => .mem (.aby a)
  | .nopAbx _ a => .mem (.abx a)
  | .oraAbx a => .mem (.abx a)
  | .aslAbx a => .mem (.abx a)
  | .sloAbx a => .mem (.abx a)
  | .jsr a => .target a
  | .andIzx z => .mem (.izx z)
  | .rlaIzx z => .mem (.izx z)
  | .bitZp z => .mem (.zp z)
  | .andZp z => .mem (.zp z)
  | .rolZp z => .mem (.zp z)
  | .rlaZp z => .mem (.zp z)
  | .plp => .imp
  | .andImm d => .imm d
  | .rolAcc => .acc
  | .bitAbs a => .mem (.abs a)
  | .andAbs a => .mem (.abs a)
  | .rolAbs a => .mem (.abs a)
  | .rlaAbs a => .mem (.abs a)
  | .bmi d => .rel d
  | .andIzy z => .mem (.izy z)
  | .rlaIzy z => .mem (.izy z)
  | .andZpx z => .mem (.zpx z)
  | .rolZpx z => .mem (.zpx z)
  | .rlaZpx z => .mem (.zpx z)
  | .sec => .imp
  | .andAby a => .mem (.aby a)
  | .rlaAby a => .mem (.aby a)
  | .andAbx a => .mem (.abx a)
  | .rolAbx a => .mem (.abx a)
  | .rlaAbx a => .mem (.abx a)
  | .rti => .imp
  | .eorIzx z => .mem (.izx z)
  | .sreIzx z => .mem (.izx z)
  | .eorZp z => .mem (.zp z)
  | .lsrZp z => .mem (.zp z)
  | .sreZp z => .mem (.zp z)
  | .pha => .imp
  | .eorImm d => .imm d
  | .lsrAcc => .acc
  | .alr d => .imm d
  | .jmpAbs a => .target a
  | .eorAbs a => .mem (.abs a)
  | .lsrAbs a => .mem (.abs a)
  | .sreAbs a => .mem (.abs a)
  | .bvc d => .rel d
  | .eorIzy z => .mem (.izy z)
  | .sreIzy z => .mem (.izy z)
  | .eorZpx z => .mem (.zpx z)
  | .lsrZpx z => .mem (.zpx z)
  | .sreZpx z => .mem (.zpx z)
  | .cli => .imp
  | .eorAby a => .mem (.aby a)
  | .sreAby a => .mem (.aby a)
  | .eorAbx a => .mem (.abx a)
  | .lsrAbx a => .mem (.abx a)
  | .sreAbx a => .mem (.abx a)
  | .rts => .imp
  | .adcIzx z => .mem (.izx z)
  | .rraIzx z => .mem (.izx z)
  | .adcZp z => .mem (.zp z)
  | .rorZp z => .mem (.zp z)
  | .rraZp z => .mem (.zp z)
  | .pla => .imp
  | .adcImm d => .imm d
  | .rorAcc => .acc
  | .arr d => .imm d
  | .jmpInd p => .ind p
  | .adcAbs a => .mem (.abs a)
  | .rorAbs a => .mem (.abs a)
  | .rraAbs a => .mem (.abs a)
  | .bvs d => .rel d
  | .adcIzy z => .mem (.izy z)
  | .rraIzy z => .mem (.izy z)
  | .adcZpx z => .mem (.zpx z)
  | .rorZpx z => .mem (.zpx z)
  | .rraZpx z => .mem (.zpx z)
  | .sei => .imp
  | .adcAby a => .mem (.aby a)
  | .rraAby a => .mem (.aby a)
  | .adcAbx a => .mem (.abx a)
  | .rorAbx a => .mem (.abx a)
  | .rraAbx a => .mem (.abx a)
  | .nopImm _ d => .imm d
  | .staIzx z => .mem (.izx z)
  | .saxIzx z => .mem (.izx z)
  | .styZp z => .mem (.zp z)
  | .staZp z => .mem (.zp z)
  | .stxZp z => .mem (.zp z)
  | .saxZp z => .mem (.zp z)
  | .dey => .imp
  | .txa => .imp
  | .ane d => .imm d
  | .styAbs a => .mem (.abs a)
  | .staAbs a => .mem (.abs a)
  | .stxAbs a => .mem (.abs a)
  | .saxAbs a => .mem (.abs a)
  | .bcc d => .rel d
  | .staIzy z => .mem (.izy z)
  | .shaIzy z => .mem (.izy z)
  | .styZpx z => .mem (.zpx z)
  | .staZpx z => .mem (.zpx z)
  | .stxZpy z => .mem (.zpy z)
  | .saxZpy z => .mem (.zpy z)
  | .tya => .imp
  | .staAby a => .mem (.aby a)
  | .txs => .imp
  | .tas a => .mem (.aby a)
  | .shy a => .mem (.abx a)
  | .staAbx a => .mem (.abx a)
  | .shx a => .mem (.aby a)
  | .shaAby a => .mem (.aby a)
  | .ldyImm d => .imm d
  | .ldaIzx z => .mem (.izx z)
  | .ldxImm d => .imm d
  | .laxIzx z => .mem (.izx z)
  | .ldyZp z => .mem (.zp z)
  | .ldaZp z => .mem (.zp z)
  | .ldxZp z => .mem (.zp z)
  | .laxZp z => .mem (.zp z)
  | .tay => .imp
  | .ldaImm d => .imm d
  | .tax => .imp
  | .lxa d => .imm d
  | .ldyAbs a => .mem (.abs a)
  | .ldaAbs a => .mem (.abs a)
  | .ldxAbs a => .mem (.abs a)
  | .laxAbs a => .mem (.abs a)
  | .bcs d => .rel d
  | .ldaIzy z => .mem (.izy z)
  | .laxIzy z => .mem (.izy z)
  | .ldyZpx z => .mem (.zpx z)
  | .ldaZpx z => .mem (.zpx z)
  | .ldxZpy z => .mem (.zpy z)
  | .laxZpy z => .mem (.zpy z)
  | .clv => .imp
  | .ldaAby a => .mem (.aby a)
  | .tsx => .imp
  | .las a => .mem (.aby a)
  | .ldyAbx a => .mem (.abx a)
  | .ldaAbx a => .mem (.abx a)
  | .ldxAby a => .mem (.aby a)
  | .laxAby a => .mem (.aby a)
  | .cpyImm d => .imm d
  | .cmpIzx z => .mem (.izx z)
  | .dcpIzx z => .mem (.izx z)
  | .cpyZp z => .mem (.zp z)
  | .cmpZp z => .mem (.zp z)
  | .decZp z => .mem (.zp z)
  | .dcpZp z => .mem (.zp z)
  | .iny => .imp
  | .cmpImm d => .imm d
  | .dex => .imp
  | .sbx d => .imm d
  | .cpyAbs a => .mem (.abs a)
  | .cmpAbs a => .mem (.abs a)
  | .decAbs a => .mem (.abs a)
  | .dcpAbs a => .mem (.abs a)
  | .bne d => .rel d
  | .cmpIzy z => .mem (.izy z)
  | .dcpIzy z => .mem (.izy z)
  | .cmpZpx z => .mem (.zpx z)
  | .decZpx z => .mem (.zpx z)
  | .dcpZpx z => .mem (.zpx z)
  | .cld => .imp
  | .cmpAby a => .mem (.aby a)
  | .dcpAby a => .mem (.aby a)
  | .cmpAbx a => .mem (.abx a)
  | .decAbx a => .mem (.abx a)
  | .dcpAbx a => .mem (.abx a)
  | .cpxImm d => .imm d
  | .sbcIzx z => .mem (.izx z)
  | .iscIzx z => .mem (.izx z)
  | .cpxZp z => .mem (.zp z)
  | .sbcZp z => .mem (.zp z)
  | .incZp z => .mem (.zp z)
  | .iscZp z => .mem (.zp z)
  | .inx => .imp
  | .sbcImm d => .imm d
  | .nop => .imp
  | .usbc d => .imm d
  | .cpxAbs a => .mem (.abs a)
  | .sbcAbs a => .mem (.abs a)
  | .incAbs a => .mem (.abs a)
  | .iscAbs a => .mem (.abs a)
  | .beq d => .rel d
  | .sbcIzy z => .mem (.izy z)
  | .iscIzy z => .mem (.izy z)
  | .sbcZpx z => .mem (.zpx z)
  | .incZpx z => .mem (.zpx z)
  | .iscZpx z => .mem (.zpx z)
  | .sed => .imp
  | .sbcAby a => .mem (.aby a)
  | .iscAby a => .mem (.aby a)
  | .sbcAbx a => .mem (.abx a)
  | .incAbx a => .mem (.abx a)
  | .iscAbx a => .mem (.abx a)

/-- The mnemonic of an instruction (R116, R117). -/
def Instr.mnemonic : Instr → Mnemonic
  | .brk => .brk
  | .oraIzx _ => .ora
  | .jam _ => .jam
  | .sloIzx _ => .slo
  | .nopZp _ _ => .nop
  | .oraZp _ => .ora
  | .aslZp _ => .asl
  | .sloZp _ => .slo
  | .php => .php
  | .oraImm _ => .ora
  | .aslAcc => .asl
  | .anc _ _ => .anc
  | .nopAbs _ => .nop
  | .oraAbs _ => .ora
  | .aslAbs _ => .asl
  | .sloAbs _ => .slo
  | .bpl _ => .bpl
  | .oraIzy _ => .ora
  | .sloIzy _ => .slo
  | .nopZpx _ _ => .nop
  | .oraZpx _ => .ora
  | .aslZpx _ => .asl
  | .sloZpx _ => .slo
  | .clc => .clc
  | .oraAby _ => .ora
  | .nopImp _ => .nop
  | .sloAby _ => .slo
  | .nopAbx _ _ => .nop
  | .oraAbx _ => .ora
  | .aslAbx _ => .asl
  | .sloAbx _ => .slo
  | .jsr _ => .jsr
  | .andIzx _ => .and
  | .rlaIzx _ => .rla
  | .bitZp _ => .bit
  | .andZp _ => .and
  | .rolZp _ => .rol
  | .rlaZp _ => .rla
  | .plp => .plp
  | .andImm _ => .and
  | .rolAcc => .rol
  | .bitAbs _ => .bit
  | .andAbs _ => .and
  | .rolAbs _ => .rol
  | .rlaAbs _ => .rla
  | .bmi _ => .bmi
  | .andIzy _ => .and
  | .rlaIzy _ => .rla
  | .andZpx _ => .and
  | .rolZpx _ => .rol
  | .rlaZpx _ => .rla
  | .sec => .sec
  | .andAby _ => .and
  | .rlaAby _ => .rla
  | .andAbx _ => .and
  | .rolAbx _ => .rol
  | .rlaAbx _ => .rla
  | .rti => .rti
  | .eorIzx _ => .eor
  | .sreIzx _ => .sre
  | .eorZp _ => .eor
  | .lsrZp _ => .lsr
  | .sreZp _ => .sre
  | .pha => .pha
  | .eorImm _ => .eor
  | .lsrAcc => .lsr
  | .alr _ => .alr
  | .jmpAbs _ => .jmp
  | .eorAbs _ => .eor
  | .lsrAbs _ => .lsr
  | .sreAbs _ => .sre
  | .bvc _ => .bvc
  | .eorIzy _ => .eor
  | .sreIzy _ => .sre
  | .eorZpx _ => .eor
  | .lsrZpx _ => .lsr
  | .sreZpx _ => .sre
  | .cli => .cli
  | .eorAby _ => .eor
  | .sreAby _ => .sre
  | .eorAbx _ => .eor
  | .lsrAbx _ => .lsr
  | .sreAbx _ => .sre
  | .rts => .rts
  | .adcIzx _ => .adc
  | .rraIzx _ => .rra
  | .adcZp _ => .adc
  | .rorZp _ => .ror
  | .rraZp _ => .rra
  | .pla => .pla
  | .adcImm _ => .adc
  | .rorAcc => .ror
  | .arr _ => .arr
  | .jmpInd _ => .jmp
  | .adcAbs _ => .adc
  | .rorAbs _ => .ror
  | .rraAbs _ => .rra
  | .bvs _ => .bvs
  | .adcIzy _ => .adc
  | .rraIzy _ => .rra
  | .adcZpx _ => .adc
  | .rorZpx _ => .ror
  | .rraZpx _ => .rra
  | .sei => .sei
  | .adcAby _ => .adc
  | .rraAby _ => .rra
  | .adcAbx _ => .adc
  | .rorAbx _ => .ror
  | .rraAbx _ => .rra
  | .nopImm _ _ => .nop
  | .staIzx _ => .sta
  | .saxIzx _ => .sax
  | .styZp _ => .sty
  | .staZp _ => .sta
  | .stxZp _ => .stx
  | .saxZp _ => .sax
  | .dey => .dey
  | .txa => .txa
  | .ane _ => .ane
  | .styAbs _ => .sty
  | .staAbs _ => .sta
  | .stxAbs _ => .stx
  | .saxAbs _ => .sax
  | .bcc _ => .bcc
  | .staIzy _ => .sta
  | .shaIzy _ => .sha
  | .styZpx _ => .sty
  | .staZpx _ => .sta
  | .stxZpy _ => .stx
  | .saxZpy _ => .sax
  | .tya => .tya
  | .staAby _ => .sta
  | .txs => .txs
  | .tas _ => .tas
  | .shy _ => .shy
  | .staAbx _ => .sta
  | .shx _ => .shx
  | .shaAby _ => .sha
  | .ldyImm _ => .ldy
  | .ldaIzx _ => .lda
  | .ldxImm _ => .ldx
  | .laxIzx _ => .lax
  | .ldyZp _ => .ldy
  | .ldaZp _ => .lda
  | .ldxZp _ => .ldx
  | .laxZp _ => .lax
  | .tay => .tay
  | .ldaImm _ => .lda
  | .tax => .tax
  | .lxa _ => .lxa
  | .ldyAbs _ => .ldy
  | .ldaAbs _ => .lda
  | .ldxAbs _ => .ldx
  | .laxAbs _ => .lax
  | .bcs _ => .bcs
  | .ldaIzy _ => .lda
  | .laxIzy _ => .lax
  | .ldyZpx _ => .ldy
  | .ldaZpx _ => .lda
  | .ldxZpy _ => .ldx
  | .laxZpy _ => .lax
  | .clv => .clv
  | .ldaAby _ => .lda
  | .tsx => .tsx
  | .las _ => .las
  | .ldyAbx _ => .ldy
  | .ldaAbx _ => .lda
  | .ldxAby _ => .ldx
  | .laxAby _ => .lax
  | .cpyImm _ => .cpy
  | .cmpIzx _ => .cmp
  | .dcpIzx _ => .dcp
  | .cpyZp _ => .cpy
  | .cmpZp _ => .cmp
  | .decZp _ => .dec
  | .dcpZp _ => .dcp
  | .iny => .iny
  | .cmpImm _ => .cmp
  | .dex => .dex
  | .sbx _ => .sbx
  | .cpyAbs _ => .cpy
  | .cmpAbs _ => .cmp
  | .decAbs _ => .dec
  | .dcpAbs _ => .dcp
  | .bne _ => .bne
  | .cmpIzy _ => .cmp
  | .dcpIzy _ => .dcp
  | .cmpZpx _ => .cmp
  | .decZpx _ => .dec
  | .dcpZpx _ => .dcp
  | .cld => .cld
  | .cmpAby _ => .cmp
  | .dcpAby _ => .dcp
  | .cmpAbx _ => .cmp
  | .decAbx _ => .dec
  | .dcpAbx _ => .dcp
  | .cpxImm _ => .cpx
  | .sbcIzx _ => .sbc
  | .iscIzx _ => .isc
  | .cpxZp _ => .cpx
  | .sbcZp _ => .sbc
  | .incZp _ => .inc
  | .iscZp _ => .isc
  | .inx => .inx
  | .sbcImm _ => .sbc
  | .nop => .nop
  | .usbc _ => .usbc
  | .cpxAbs _ => .cpx
  | .sbcAbs _ => .sbc
  | .incAbs _ => .inc
  | .iscAbs _ => .isc
  | .beq _ => .beq
  | .sbcIzy _ => .sbc
  | .iscIzy _ => .isc
  | .sbcZpx _ => .sbc
  | .incZpx _ => .inc
  | .iscZpx _ => .isc
  | .sed => .sed
  | .sbcAby _ => .sbc
  | .iscAby _ => .isc
  | .sbcAbx _ => .sbc
  | .incAbx _ => .inc
  | .iscAbx _ => .isc

/-- The addressing mode of a memory operand. -/
def MemMode.mode : MemMode → Mode
  | .zp _ => .zp
  | .zpx _ => .zpx
  | .zpy _ => .zpy
  | .abs _ => .abs
  | .abx _ => .abx
  | .aby _ => .aby
  | .izx _ => .izx
  | .izy _ => .izy

/-- The addressing mode of an operand. -/
def Operand.mode : Operand → Mode
  | .imp => .imp
  | .acc => .acc
  | .imm _ => .imm
  | .mem m => m.mode
  | .rel _ => .rel
  | .target _ => .abs
  | .ind _ => .ind

/-- The bytes of a memory operand, low byte first (R111, R113). -/
def MemMode.bytes : MemMode → List Byte
  | .zp z | .zpx z | .zpy z | .izx z | .izy z => [z]
  | .abs a | .abx a | .aby a => [lo a, hi a]

/-- The operand bytes, low byte first (R111, R113). -/
def Operand.bytes : Operand → List Byte
  | .imp | .acc => []
  | .imm d | .rel d => [d]
  | .mem m => m.bytes
  | .target a | .ind a => [lo a, hi a]

/-- The length of an instruction in bytes (R110). BRK counts one: its padding byte is not part of its encoding (R305). -/
def Instr.length (i : Instr) : Nat := i.operand.mode.length

/-- The encoder: the opcode byte and the operand bytes, in the order of their addresses (R111). -/
def encode (i : Instr) : List Byte := i.opcode :: i.operand.bytes

/-- The three bytes of a number, the least significant at the lowest address, of which only the `nbits` lowest bits count. -/
def bytesOfTableWord (nbits w : Nat) : List Byte :=
  let v := w % 2 ^ nbits
  [BitVec.ofNat 8 v, BitVec.ofNat 8 (v / 256), BitVec.ofNat 8 (v / 65536)]

/-- The instruction that the decoder reads from an instruction whose bits, numbered as spec/opcode_table.json numbers them,
are `w`; every bit above `nbits` is 0. -/
def decodeTableWord (nbits w : Nat) : Option Instr :=
  match decode (bytesOfTableWord nbits w) with
  | .ok (i, _) => some i
  | .error _ => none

end Sys2Proof
end

