-- ==== Sys2Proof/Machine/State.lean ====
section
/-! DEFINITION. The state of the machine as plain data: everything 10_state.md and 20_memory.md give the block, the reasons a
step stops, and the state right after reset. -/

namespace Sys2Proof.Machine

/-- The stored flags. Bits 5 and 4 of P are not stored (10_state.md R26 to R28). -/
structure Flags where
  /-- Negative, bit 7 of P. -/
  n : Bool
  /-- Overflow, bit 6. -/
  v : Bool
  /-- Decimal, bit 3: storage only (R31). -/
  d : Bool
  /-- Interrupt disable, bit 2 (R30). -/
  i : Bool
  /-- Zero, bit 1. -/
  z : Bool
  /-- Carry, bit 0. -/
  c : Bool
  deriving DecidableEq, Repr

/-- `opstate`: what the next tick does (R32). -/
inductive OpState where
  | fetch | decode | execute
  deriving DecidableEq, Repr

/-- `int_kind`: which interrupt a FETCH selected (R39). -/
inductive IntKind where
  | nmi | irq | reset
  deriving DecidableEq, Repr

/-- `halted` (R43). -/
inductive Halted where
  | running
  | jam (opcode : Byte)
  | unknownOpcode (opcode : Byte)
  deriving DecidableEq, Repr

/-- The instruction-cycle state (R32 to R39). -/
structure ICycle where
  opstate : OpState
  /-- The latched opcode, 0 for an interrupt (R33). -/
  opcode : Byte
  opgroup : OpGroup
  /-- The cycle index within the current opstate (R34). DESIGN CHOICE (log 30): a natural number; the spec gives no width. -/
  tick : Nat
  /-- The effective address, and its low byte while only that is known (R35; log 33). -/
  address : Word
  /-- The pre-offset address (R35), and what the model keeps here before there is one (log 33). -/
  baseAddress : Word
  /-- The old value of a read-modify-write operand (R36). -/
  tmp : Byte
  /-- Set in the tick that fuses DECODE and EXECUTE (R37). -/
  skipTransition : Bool
  /-- none for an ordinary fetch (R39). -/
  intKind : Option IntKind
  deriving DecidableEq, Repr

/-- The instruction-cycle state as each FETCH resets it (R32, R48): the machine is at an instruction boundary. -/
def ICycle.boundary : ICycle where
  opstate := .fetch
  opcode := 0x00#8
  opgroup := .none
  tick := 0
  address := 0x0000#16
  baseAddress := 0x0000#16
  tmp := 0x00#8
  skipTransition := false
  intKind := none

/-- A bus access reads or writes. -/
inductive BusKind where
  | read | write
  deriving DecidableEq, Repr

/-- One bus access, the output of one cycle (R45). The address is the one issued, before mirroring. -/
structure BusAccess where
  kind : BusKind
  addr : Word
  data : Byte
  deriving DecidableEq, Repr

/-- The state of the block. INVENTORY.md lists each field with its rule and its reset value. -/
structure State where
  /-- A, the accumulator (R21). -/
  a : Byte
  /-- X (R22). -/
  x : Byte
  /-- Y (R22). -/
  y : Byte
  /-- S, the stack pointer (R23). -/
  sp : Byte
  /-- PC (R24). -/
  pc : Word
  /-- The six stored flags of P (R26). -/
  flags : Flags
  /-- The instruction-cycle state (R32 to R39). -/
  ic : ICycle
  /-- `cycles` (R38, D17). -/
  cycles : Nat
  /-- `nmi_pending` (R40). -/
  nmiPending : Bool
  /-- `irq_line` (R41): no rule of the block writes it. -/
  irqLine : Bool
  /-- `reset_pending` (R42). -/
  resetPending : Bool
  /-- `halted` (R43). -/
  halted : Halted
  /-- The flat RAM array, of which 0x0000 to 0x07FF and 0x4018 to 0x401F can be reached (R44). -/
  ram : Memory
  /-- The cartridge: the fixed-bank mapper and its memories (R44, R70). -/
  cart : Cartridge
  /-- The model's own: the environment's answers to the coming reads of peripheral cells, oldest first (log 6). -/
  periphIn : List Byte
  /-- The model's own: the access sequence of the transition last started, the first access first (R11, R45; log 19). -/
  accesses : List BusAccess
  deriving DecidableEq, Repr

/-- Why a running machine stops. -/
inductive Fault where
  /-- Raised by step in the state Halted(Jam op): the distinguished failure result of 60_exceptions.md R420. Safe: the
  hardware has no step there either. -/
  | jammed (opcode : Byte)
  /-- Raised by step in the state Halted(UnknownOpcode op) (R420, R423). Safe; no run reaches it. -/
  | unknownOpcode (opcode : Byte)
  deriving DecidableEq, Repr

/-- Why a step has no meaning. -/
inductive Refusal where
  /-- Raised by an arm of exec whose instruction has no meaning yet. Safe. No arm does. -/
  | notModelled (mnemonic : String)
  deriving DecidableEq, Repr

/-- The machine right after reset: R48's column "after the RESET sequence", from the recommended default of PowerOn and
the blank cartridge (log 1, log 2, log 4). -/
def State.reset : State where
  a := 0x00#8
  x := 0x00#8
  y := 0x00#8
  sp := 0xFD#8
  pc := 0x0000#16
  flags := { n := false, v := false, d := false, i := true, z := false, c := false }
  ic := ICycle.boundary
  cycles := 7
  nmiPending := false
  irqLine := false
  resetPending := false
  halted := .running
  ram := [(0x01FE, 0x20#8)]
  cart := Cartridge.blank
  periphIn := []
  accesses :=
    [ ⟨.read, 0x0000#16, 0x00#8⟩, ⟨.read, 0x0000#16, 0x00#8⟩,
      ⟨.write, 0x0100#16, 0x00#8⟩, ⟨.write, 0x01FF#16, 0x00#8⟩, ⟨.write, 0x01FE#16, 0x20#8⟩,
      ⟨.read, 0xFFFC#16, 0x00#8⟩, ⟨.read, 0xFFFD#16, 0x00#8⟩ ]

end Sys2Proof.Machine
end

