-- ==== Sys2Proof/Machine/Bus.lean ====
section
/-! DEFINITION. The memory bus: mirroring, the decoder, the fixed-bank mapper's four operations, and one bus cycle as a value
and a next state (20_memory.md R60 to R77). -/

namespace Sys2Proof.Machine

/-- `mirror(a)` (R62). -/
def mirror (a : Word) : Word :=
  if a.toNat ≤ 0x1FFF then a &&& 0x07FF#16
  else if a.toNat ≤ 0x3FFF then BitVec.ofNat 16 (0x2000 + (a.toNat - 0x2000) % 8)
  else a

/-- What answers in cartridge space: a byte of program ROM, one of cartridge RAM, or nothing (R69). -/
inductive CartCell where
  | prgRom (offset : Nat)
  | prgRam (offset : Nat)
  | unmapped
  deriving DecidableEq, Repr

/-- What answers at a CPU address: a cell of the flat RAM array, a PPU cell, an APU/IO cell, or the mapper (R62). -/
inductive BusCell where
  | ram (index : Nat)
  | ppu (cell : Nat)
  | apuIo (cell : Nat)
  | cart (c : CartCell)
  deriving DecidableEq, Repr

/-- Where the fixed-bank variant finds an address of cartridge space (R72, R73). -/
def cartCell (c : Cartridge) (a : Nat) : CartCell :=
  if 0x8000 ≤ a then .prgRom (a &&& (c.prgRomSize - 1))
  else if 0x6000 ≤ a ∧ 0 < c.prgRamSize then .prgRam (a &&& (c.prgRamSize - 1))
  else .unmapped

/-- The decoder: first mirroring, then dispatch on the mirrored address (R62). -/
def busCell (c : Cartridge) (a : Word) : BusCell :=
  let m := (mirror a).toNat
  if 0x2000 ≤ m ∧ m ≤ 0x2007 then .ppu (m - 0x2000)
  else if 0x4000 ≤ m ∧ m ≤ 0x4017 then .apuIo (m - 0x4000)
  else if m < 0x4020 then .ram m
  else .cart (cartCell c m)

/-- The mapper's `cpu_read`: unmapped reads as 0x00 (R72). -/
def cpuRead (c : Cartridge) (cell : CartCell) : Byte :=
  match cell with
  | .prgRom k => c.prgRom.read k
  | .prgRam k => c.prgRam.read k
  | .unmapped => 0x00#8

/-- The mapper's `cpu_write`: only cartridge RAM takes it, every other write is ignored (R73). -/
def cpuWrite (c : Cartridge) (cell : CartCell) (v : Byte) : Cartridge :=
  match cell with
  | .prgRom _ => c
  | .prgRam k => { c with prgRam := c.prgRam.write k v }
  | .unmapped => c

/-- The mapper's `ppu_read` over the 13-bit pattern space (R60, R74). -/
def ppuRead (c : Cartridge) (a : BitVec 13) : Byte :=
  match c.chrLog2 with
  | none => 0x00#8
  | some _ => c.chr.read (a.toNat &&& (c.chrSize - 1))

/-- The mapper's `ppu_write`: ignored by character ROM, and where there is no character memory (R74). -/
def ppuWrite (c : Cartridge) (a : BitVec 13) (v : Byte) : Cartridge :=
  match c.chrLog2 with
  | none => c
  | some _ => if c.chrIsRam then { c with chr := c.chr.write (a.toNat &&& (c.chrSize - 1)) v } else c

/-- The cell that answers at a CPU address in a state. -/
def State.cellAt (s : State) (a : Word) : BusCell := busCell s.cart a

/-- Who owns the peripheral cells: the video collaborator, and the audio and input one (20_memory.md R65 to R67). -/
inductive Collaborator where
  | video | audioInput
  deriving DecidableEq, Repr

/-- The collaborator to which a cell's accesses are delivered: video for the PPU cells and for cell 0x14 of the APU/IO range, the
OAMDMA cell at 0x4014; audio and input for the other APU/IO cells; none for memory (R65, R67). -/
def BusCell.collaborator : BusCell → Option Collaborator
  | .ppu _ => some .video
  | .apuIo n => some (if n = 0x14 then .video else .audioInput)
  | .ram _ | .cart _ => none

/-- The cell belongs to a collaborator (R65, R67). -/
def BusCell.isPeriph (c : BusCell) : Bool := c.collaborator.isSome

/-- What a collaborator is told of an access to one of its cells: a write of a value, or that the cell was read and which byte it
supplied (R65, R68). -/
structure CellEvent where
  kind : BusKind
  cell : BusCell
  data : Byte
  deriving DecidableEq, Repr

/-- The delivery that an access makes: to whom and what, none for an access to memory (R65, R67). -/
def BusAccess.delivery (c : Cartridge) (x : BusAccess) : Option (Collaborator × CellEvent) :=
  (busCell c x.addr).collaborator.map fun k => (k, ⟨x.kind, busCell c x.addr, x.data⟩)

/-- The deliveries of the transition last started, in the order of its accesses (R65, R67; log 19). -/
def State.deliveries (s : State) : List (Collaborator × CellEvent) := s.accesses.filterMap (BusAccess.delivery s.cart)

/-- What one collaborator sees of the transition last started (R65, R67). -/
def State.deliveredTo (s : State) (k : Collaborator) : List CellEvent :=
  (s.deliveries.filter fun d => d.1 = k).map (·.2)

/-- What the environment answers to a read of the peripheral cell at `a` now: its next byte, else the free value (R65; log 6). -/
def State.periphValue (s : State) (a : Word) : Byte :=
  match s.periphIn with
  | b :: _ => b
  | [] => Config.periphByte s.cycles (mirror a)

/-- The byte that a bus read at `a` returns now: the value of `Rd(a)` (00_scope.md R11, R63, R64, R65, R72). -/
def State.readValue (s : State) (a : Word) : Byte :=
  match s.cellAt a with
  | .ram k => s.ram.read k
  | .ppu _ => s.periphValue a
  | .apuIo _ => s.periphValue a
  | .cart c => cpuRead s.cart c

/-- The environment's answers left after a read at `a`: a peripheral cell takes one (R68). -/
def State.periphAfterRead (s : State) (a : Word) : List Byte :=
  if (s.cellAt a).isPeriph then s.periphIn.drop 1 else s.periphIn

/-- The state after the bus cycle `Rd(a)`: it counts one cycle and appends one access (R11); the side effect of reading a
peripheral cell is that the environment hears of it and its next answer is used up (R65, R68). -/
def State.onRead (s : State) (a : Word) : State :=
  { s with
    cycles := s.cycles + 1
    periphIn := s.periphAfterRead a
    accesses := s.accesses ++ [⟨.read, a, s.readValue a⟩] }

/-- The flat RAM array after a write of `v` at `a` (R63, R64). -/
def State.ramAfterWrite (s : State) (a : Word) (v : Byte) : Memory :=
  match s.cellAt a with
  | .ram k => s.ram.write k v
  | .ppu _ | .apuIo _ | .cart _ => s.ram

/-- The cartridge after a write of `v` at `a` (R73). -/
def State.cartAfterWrite (s : State) (a : Word) (v : Byte) : Cartridge :=
  match s.cellAt a with
  | .cart c => cpuWrite s.cart c v
  | .ram _ | .ppu _ | .apuIo _ => s.cart

/-- The state after the bus cycle `Wr(a, v)`: it counts one cycle and appends one access (R11). A write to a peripheral cell
is an output event only (R65). -/
def State.onWrite (s : State) (a : Word) (v : Byte) : State :=
  { s with
    cycles := s.cycles + 1
    ram := s.ramAfterWrite a v
    cart := s.cartAfterWrite a v
    accesses := s.accesses ++ [⟨.write, a, v⟩] }

/-- The byte at an address without a bus access; none in a peripheral cell, whose contents the block does not own. It is how
statements speak of memory, and what the trace view reads (60_exceptions.md R430). -/
def State.peek (s : State) (a : Word) : Option Byte :=
  match s.cellAt a with
  | .ram k => some (s.ram.read k)
  | .ppu _ | .apuIo _ => none
  | .cart c => some (cpuRead s.cart c)

/-- The address can hold a byte of a program that a loader puts there, and the state with it there. Program ROM is written
by the loader only. Nothing is stored where the cell is a collaborator's or unmapped. -/
def State.loadByte (s : State) (a : Word) (v : Byte) : State :=
  match s.cellAt a with
  | .ram k => { s with ram := s.ram.write k v }
  | .cart (.prgRom k) => { s with cart := { s.cart with prgRom := s.cart.prgRom.write k v } }
  | .cart (.prgRam k) => { s with cart := { s.cart with prgRam := s.cart.prgRam.write k v } }
  | .cart .unmapped | .ppu _ | .apuIo _ => s

end Sys2Proof.Machine
end

