-- ==== Sys2Proof/Machine/Flags.lean ====
section
/-! DEFINITION. The status byte and every flag computation of the instruction rules (10_state.md R26 to R31, 43_arithmetic_logic.md
R249 to R252). -/

namespace Sys2Proof.Machine

/-- `PackP(b)` (00_scope.md R10): bit 5 is 1 (R27), bit 4 is `b` (R28). -/
def packP (f : Flags) (b : Bool) : Byte :=
  bitAt 7 f.n ||| bitAt 6 f.v ||| bitAt 5 true ||| bitAt 4 b ||| bitAt 3 f.d ||| bitAt 2 f.i ||| bitAt 1 f.z ||| bitAt 0 f.c

/-- `UnpackP(v)` (R10): bits 5 and 4 are discarded. -/
def unpackP (v : Byte) : Flags where
  n := v.getLsbD 7
  v := v.getLsbD 6
  d := v.getLsbD 3
  i := v.getLsbD 2
  z := v.getLsbD 1
  c := v.getLsbD 0

/-- The live P, as a trace line shows it: bit 5 = 1, bit 4 = 0 (R28). -/
def State.p (s : State) : Byte := packP s.flags false

/-- The flags after `SetNZ(v)` (00_scope.md R11, 10_state.md R29). -/
def Flags.setNZ (f : Flags) (v : Byte) : Flags := { f with n := v.getLsbD 7, z := v == 0x00#8 }

/-- The flags with C set to `c`. -/
def Flags.setC (f : Flags) (c : Bool) : Flags := { f with c := c }

/-- The state after `SetNZ(v)`. -/
def State.setNZ (s : State) (v : Byte) : State := { s with flags := s.flags.setNZ v }

/-- The sum inside ADD, 0 to 511 (R250). -/
def addSum (a m : Byte) (c : Bool) : Nat := a.toNat + m.toNat + c.toNat

/-- The result of `ADD(a, m, c)` (R250). -/
def addResult (a m : Byte) (c : Bool) : Byte := BitVec.ofNat 8 (addSum a m c)

/-- The carry of `ADD(a, m, c)` (R250). -/
def addCarry (a m : Byte) (c : Bool) : Bool := decide (0xFF < addSum a m c)

/-- The overflow of `ADD(a, m, c)`: `((m ^ result) & (a ^ result) & 0x80) != 0` (R250). -/
def addOverflow (a m : Byte) (c : Bool) : Bool :=
  let r := addResult a m c
  ((m ^^^ r) &&& (a ^^^ r) &&& 0x80#8) != 0x00#8

/-- The flags that `ADD(a, m, c)` leaves: C, V and then SetNZ of the result (R250). -/
def addFlags (f : Flags) (a m : Byte) (c : Bool) : Flags :=
  Flags.setNZ { f with c := addCarry a m c, v := addOverflow a m c } (addResult a m c)

/-- The flags that `COMPARE(r, m)` leaves (R251). -/
def compareFlags (f : Flags) (r m : Byte) : Flags := (f.setC (decide (m.toNat ≤ r.toNat))).setNZ (r - m)

/-- The result of `ASLf(m)` (R252). -/
def aslResult (m : Byte) : Byte := m <<< 1
/-- The flags that `ASLf(m)` leaves: C is bit 7 of `m` (R252). -/
def aslFlags (f : Flags) (m : Byte) : Flags := (f.setC (m.getLsbD 7)).setNZ (aslResult m)

/-- The result of `LSRf(m)` (R252). -/
def lsrResult (m : Byte) : Byte := m >>> 1
/-- The flags that `LSRf(m)` leaves: C is bit 0 of `m` (R252). -/
def lsrFlags (f : Flags) (m : Byte) : Flags := (f.setC (m.getLsbD 0)).setNZ (lsrResult m)

/-- The result of `ROLf(m)` with the old carry `c` (R252). -/
def rolResult (c : Bool) (m : Byte) : Byte := (m <<< 1) ||| bitAt 0 c
/-- The flags that `ROLf(m)` leaves: C is bit 7 of `m` (R252). -/
def rolFlags (f : Flags) (m : Byte) : Flags := (f.setC (m.getLsbD 7)).setNZ (rolResult f.c m)

/-- The result of `RORf(m)` with the old carry `c` (R252). -/
def rorResult (c : Bool) (m : Byte) : Byte := (m >>> 1) ||| bitAt 7 c
/-- The flags that `RORf(m)` leaves: C is bit 0 of `m` (R252). -/
def rorFlags (f : Flags) (m : Byte) : Flags := (f.setC (m.getLsbD 0)).setNZ (rorResult f.c m)

/-- The flags that BIT leaves: Z from `A & M`, N and V copied from the memory byte (R238). -/
def bitFlags (f : Flags) (a m : Byte) : Flags :=
  { f with z := (a &&& m) == 0x00#8, n := m.getLsbD 7, v := m.getLsbD 6 }

/-- The result of ARR with the old carry `c` (45_undocumented.md R361). -/
def arrResult (c : Bool) (a m : Byte) : Byte := rorResult c (a &&& m)
/-- The flags that ARR leaves: C and V from bits 6 and 5 of the new A (R361). -/
def arrFlags (f : Flags) (a m : Byte) : Flags :=
  let r := arrResult f.c a m
  { f.setNZ r with c := r.getLsbD 6, v := r.getLsbD 6 ^^ r.getLsbD 5 }

end Sys2Proof.Machine
end

