-- ==== Sys2Proof/Machine/Ops.lean ====
section
/-! DEFINITION. The shared operations: fetching, the stack, the interrupt arbiter, taking an exception and returning from one. -/

namespace Sys2Proof.Machine

/-- The first thing a FETCH does: the access sequence of a new instruction or interrupt sequence begins (00_scope.md R11). -/
def State.beginSequence (s : State) : State := { s with accesses := [] }

/-- The state after `Rd(PC); PC++`: one instruction byte is fetched (10_state.md R25). -/
def State.onFetch (s : State) : State := { s.onRead s.pc with pc := s.pc + 1 }

/-- The state after the cycle c1 of every instruction, `opcode <- Rd(PC); PC++` (41_addressing_modes.md R160). -/
def State.fetchOpcode (s : State) : State := s.beginSequence.onFetch

/-- The state after `Push(v)`: write at `0x0100 | S`, then decrement S (00_scope.md R11, 10_state.md R23). -/
def State.push (s : State) (v : Byte) : State := { s.onWrite (stackAddr s.sp) v with sp := s.sp - 1 }

/-- The byte that `Pull()` returns: S is incremented first (R11, R23). -/
def State.pullValue (s : State) : Byte := s.readValue (stackAddr (s.sp + 1))

/-- The state after `Pull()` (R11, R23). -/
def State.onPull (s : State) : State := { s.onRead (stackAddr (s.sp + 1)) with sp := s.sp + 1 }

/-- The state after the dummy read of the stack top, S unchanged (44_control_stack_flags.md R302 to R304, R317, R318). -/
def State.touchStack (s : State) : State := s.onRead (stackAddr s.sp)

/-- The vector of an interrupt kind (60_exceptions.md R407, R409). -/
def IntKind.vector : IntKind → Word
  | .nmi => Config.nmiVector
  | .irq => Config.irqVector
  | .reset => Config.resetVector

/-- TAKING AN EXCEPTION, cycles c3 to c7 of BRK and of every interrupt sequence: push PC high, PC low and the status byte
with bit 4 = `b`; set I after the push; load PC from the vector, low byte first (60_exceptions.md R407, R410; R305). -/
def State.enterVector (s : State) (b : Bool) (vec : Word) : State :=
  let s3 := s.push (hi s.pc)
  let s4 := s3.push (lo s.pc)
  let s5 := s4.push (packP s.flags b)
  let s5 := { s5 with flags := { s5.flags with i := true } }
  let s6 := s5.onRead vec
  let s7 := s6.onRead (vec + 1)
  { s7 with pc := w16 (s6.readValue (vec + 1)) (s5.readValue vec) }

/-- The 7-cycle interrupt sequence of NMI, IRQ and RESET: two dummy reads at PC, then the entry with B = 0 (R407). -/
def State.interruptSequence (s : State) (k : IntKind) : State :=
  ((s.beginSequence.onRead s.pc).onRead s.pc).enterVector false k.vector

/-- RETURN FROM AN EXCEPTION, cycles c4 to c6 of RTI: pull the status byte, discarding its bits 5 and 4, then PC low, then
PC high, with no adjustment (R304, R411). -/
def State.returnFromVector (s : State) : State :=
  let s4 := { s.onPull with flags := unpackP s.pullValue }
  let s5 := s4.onPull
  { s5.onPull with pc := w16 s5.pullValue s4.pullValue }

/-- `Arbitrate()`: the kind this FETCH selects, none for an ordinary fetch (60_exceptions.md R404). -/
def State.arbitrate (s : State) : Option IntKind :=
  if s.nmiPending then some .nmi
  else if s.irqLine && !s.flags.i then some .irq
  else if s.resetPending then some .reset
  else none

/-- What `Arbitrate()` clears: the latch of the kind it selects, for NMI and RESET; `irq_line` is never written (R404, R406). -/
def State.consume (s : State) (k : IntKind) : State :=
  match k with
  | .nmi => { s with nmiPending := false }
  | .irq => s
  | .reset => { s with resetPending := false }

/-- The three bytes from PC on as the fetch would read them, one after the other, from a state (20_memory.md R87). -/
def State.fetchBytes (s : State) : List Byte :=
  let s1 := s.onFetch
  let s2 := s1.onFetch
  [s.readValue s.pc, s1.readValue s1.pc, s2.readValue s2.pc]

end Sys2Proof.Machine
end

