-- ==== Sys2Proof/Machine/Operands.lean ====
section
/-! DEFINITION. The addressing-mode resolvers: the address each mode computes, and the access sequence of each mode by operation
group (41_addressing_modes.md R160 to R175). An address is computed from the state at the instruction boundary: the only
memory it depends on is zero-page RAM, which no access before it writes. -/

namespace Sys2Proof.Machine

/-- The 16-bit word at a zero-page pointer: its high byte is at `(p + 1) mod 256` (20_memory.md R82 (a)). -/
def State.zpPointer (s : State) (p : Byte) : Word :=
  w16 (s.readValue (zext16 (p + 1))) (s.readValue (zext16 p))

/-- A page is crossed when `l` is indexed by `idx`: `l + idx > 0xFF` (R175). -/
def pageCrossed (base : Word) (idx : Byte) : Bool := decide (0xFF < (lo base).toNat + idx.toNat)

/-- `pre = w16(hi(base), (l + idx) mod 256)`, the address with the uncorrected high byte (R175). -/
def preAddress (base : Word) (idx : Byte) : Word := w16 (hi base) (lo base + idx)

/-- The value SHA, SHX, SHY and TAS store, `r & (hi(base) + 1)` (45_undocumented.md R373). -/
def highAndValue (base : Word) (r : Byte) : Byte := r &&& (hi base + 1)

/-- The address SHA, SHX, SHY and TAS store to: on a page crossing its high byte is the stored value (R373). -/
def highAndAddress (base ea : Word) (crossed : Bool) (r : Byte) : Word :=
  if crossed then w16 (highAndValue base r) (lo ea) else ea

/-- The branch target: the sign-extended offset added to the address of the next instruction (R113, R174). -/
def branchTarget (next : Word) (d : Byte) : Word := next + sext16 d

end Sys2Proof.Machine

namespace Sys2Proof

open Machine

/-- The index register of a mode, 0 for the modes that have none. -/
def MemMode.index (m : MemMode) (s : State) : Byte :=
  match m with
  | .zp _ | .abs _ => 0x00#8
  | .zpx _ | .abx _ | .izx _ => s.x
  | .zpy _ | .aby _ | .izy _ => s.y

/-- The pre-offset address `base` (R161, R166 to R170, R173); for the modes that add no index, and for indirect-X, whose
index is added to the pointer, it is the effective address. -/
def MemMode.base (m : MemMode) (s : State) : Word :=
  match m with
  | .zp z | .zpx z | .zpy z => zext16 z
  | .abs a | .abx a | .aby a => a
  | .izx z => s.zpPointer (z + s.x)
  | .izy z => s.zpPointer z

/-- The effective address `ea` (R165 to R173): the zero-page modes wrap inside page 0, the others modulo 65536. -/
def MemMode.ea (m : MemMode) (s : State) : Word :=
  match m with
  | .zp z => zext16 z
  | .zpx z => zext16 (z + s.x)
  | .zpy z => zext16 (z + s.y)
  | .abs a => a
  | .abx a => a + zext16 s.x
  | .aby a => a + zext16 s.y
  | .izx z => s.zpPointer (z + s.x)
  | .izy z => s.zpPointer z + zext16 s.y

/-- The mode has the extra cycle at the uncorrected address: abx, aby, izy (R169, R170, R173). -/
def MemMode.indexesWord : MemMode → Bool
  | .abx _ | .aby _ | .izy _ => true
  | .zp _ | .zpx _ | .zpy _ | .abs _ | .izx _ => false

/-- `crossed` (R175): never in the zero-page modes, absolute and indirect-X. -/
def MemMode.crossed (m : MemMode) (s : State) : Bool := m.indexesWord && pageCrossed (m.base s) (m.index s)

/-- `pre` of a mode (R175). -/
def MemMode.pre (m : MemMode) (s : State) : Word := preAddress (m.base s) (m.index s)

/-- The state after the cycles up to the one at which the effective address is known: the opcode and operand fetches, the
pointer reads, and the dummy read at the unindexed zero-page address (R160, R165 to R173). -/
def MemMode.resolve (m : MemMode) (s : State) : State :=
  let s1 := s.fetchOpcode
  match m with
  | .zp _ => s1.onFetch
  | .zpx z | .zpy z => s1.onFetch.onRead (zext16 z)
  | .abs _ | .abx _ | .aby _ => s1.onFetch.onFetch
  | .izx z =>
    ((s1.onFetch.onRead (zext16 z)).onRead (zext16 (z + s.x))).onRead (zext16 (z + s.x + 1))
  | .izy z => (s1.onFetch.onRead (zext16 z)).onRead (zext16 (z + 1))

/-- The state before the operand read of a Read instruction: the indexed modes pay the extra cycle only on a page crossing
(R169, R170, R173). -/
def MemMode.beforeRead (m : MemMode) (s : State) : State :=
  if m.crossed s then (m.resolve s).onRead (m.pre s) else m.resolve s

/-- The state before the first access to `ea` of a Write or RMW instruction: the indexed modes always pay the extra cycle
(R169, R170, R173). -/
def MemMode.beforeWrite (m : MemMode) (s : State) : State :=
  if m.indexesWord then (m.resolve s).onRead (m.pre s) else m.resolve s

/-- The operand byte `M` that a Read instruction consumes (R161). -/
def MemMode.operandRead (m : MemMode) (s : State) : Byte := (m.beforeRead s).readValue (m.ea s)

/-- The old value `M` that an RMW instruction reads (R161). -/
def MemMode.operandRmw (m : MemMode) (s : State) : Byte := (m.beforeWrite s).readValue (m.ea s)

/-- `ea'` of a mode, with `r` the register value (R373). -/
def MemMode.highAndEa (m : MemMode) (r : Byte) (s : State) : Word :=
  highAndAddress (m.base s) (m.ea s) (m.crossed s) r

/-- The state after the accesses of a Read-Modify-Write instruction: read the old value `M`, write it back, write `f(M)`
(R161, C5, D20). -/
def MemMode.rmwAccesses (m : MemMode) (f : Byte) (s : State) : State :=
  ((((m.beforeWrite s).onRead (m.ea s)).onWrite (m.ea s) (m.operandRmw s)).onWrite (m.ea s) f)

end Sys2Proof

namespace Sys2Proof.Machine

/-- A Read instruction with a memory operand: `exe M` is what its executor does with the operand byte (R161). -/
def readInstr (m : MemMode) (exe : Byte → State → State) (s : State) : Host.Outcome State Fault Refusal :=
  .next (exe (m.operandRead s) ((m.beforeRead s).onRead (m.ea s)))

/-- A Read instruction with an immediate operand (R164). -/
def immInstr (d : Byte) (exe : Byte → State → State) (s : State) : Host.Outcome State Fault Refusal :=
  .next (exe d s.fetchOpcode.onFetch)

/-- A Write instruction: `v` is the byte it stores, from the registers before it (R161). -/
def writeInstr (m : MemMode) (v : State → Byte) (s : State) : Host.Outcome State Fault Refusal :=
  .next ((m.beforeWrite s).onWrite (m.ea s) (v s))

/-- The unstable stores, with `r` the register value, by the commonly documented stable behaviour (R373, U3 to U6; log 17). -/
def highAndInstr (m : MemMode) (r : State → Byte) (s : State) : Host.Outcome State Fault Refusal :=
  .next ((m.beforeWrite s).onWrite (m.highAndEa (r s) s) (highAndValue (m.base s) (r s)))

/-- A Read-Modify-Write instruction: `f M` is the byte written, from the registers and flags before it, and `exe M` what its
executor does with the registers and flags (R161, R350). -/
def rmwInstr (m : MemMode) (f : Byte → State → Byte) (exe : Byte → State → State) (s : State) :
    Host.Outcome State Fault Refusal :=
  .next (exe (m.operandRmw s) (m.rmwAccesses (f (m.operandRmw s) s) s))

/-- A 2-cycle instruction without operand: its second cycle is a dummy read at PC, not incremented, in which the executor's
update happens: the implied mode (R162) and the accumulator mode (R163). -/
def impInstr (exe : State → State) (s : State) : Host.Outcome State Fault Refusal :=
  .next (exe (s.fetchOpcode.onRead s.fetchOpcode.pc))

/-- A branch (R174, 44_control_stack_flags.md R306): 2 cycles not taken, 3 taken, 4 taken to another page. -/
def branchInstr (taken : Bool) (d : Byte) (s : State) : Host.Outcome State Fault Refusal :=
  let s2 := s.fetchOpcode.onFetch
  let target := branchTarget s2.pc d
  if !taken then .next s2
  else if hi target = hi s2.pc then .next { s2.onRead s2.pc with pc := target }
  else .next { (s2.onRead s2.pc).onRead (w16 (hi s2.pc) (lo target)) with pc := target }

end Sys2Proof.Machine
end

