-- ==== Sys2Proof/Machine/Arith.lean ====
section
/-! DEFINITION. Arithmetic, logic, compare, increment and decrement (43_arithmetic_logic.md R230 to R244). An `…Op` is what the executor
does with the registers and flags, an `…Value` the byte `f(M)` that a Read-Modify-Write instruction writes. -/

namespace Sys2Proof.Machine

/-- `A <- ADD(A, m, C)` (R250). D is not read (10_state.md R31). -/
def addToA (m : Byte) (s : State) : State :=
  { s with a := addResult s.a m s.flags.c, flags := addFlags s.flags s.a m s.flags.c }
/-- `A <- ADD(A, M, C)` (R230). -/
def adcOp (m : Byte) (s : State) : State := addToA m s
/-- `A <- ADD(A, M ^ 0xFF, C)` (R231). -/
def sbcOp (m : Byte) (s : State) : State := addToA (m ^^^ 0xFF#8) s
/-- `A <- A & M; SetNZ(A)` (R232). -/
def andOp (m : Byte) (s : State) : State := State.setNZ { s with a := s.a &&& m } (s.a &&& m)
/-- `A <- A | M; SetNZ(A)` (R233). -/
def oraOp (m : Byte) (s : State) : State := State.setNZ { s with a := s.a ||| m } (s.a ||| m)
/-- `A <- A ^ M; SetNZ(A)` (R234). -/
def eorOp (m : Byte) (s : State) : State := State.setNZ { s with a := s.a ^^^ m } (s.a ^^^ m)
/-- `COMPARE(A, M)` (R235). -/
def cmpOp (m : Byte) (s : State) : State := { s with flags := compareFlags s.flags s.a m }
/-- `COMPARE(X, M)` (R236). -/
def cpxOp (m : Byte) (s : State) : State := { s with flags := compareFlags s.flags s.x m }
/-- `COMPARE(Y, M)` (R237). -/
def cpyOp (m : Byte) (s : State) : State := { s with flags := compareFlags s.flags s.y m }
/-- Z from `A & M`, N and V from M (R238). -/
def bitOp (m : Byte) (s : State) : State := { s with flags := bitFlags s.flags s.a m }
/-- `f(M) = (M + 1) mod 256` (R239). -/
def incValue (m : Byte) (_ : State) : Byte := m + 1
/-- `SetNZ(f(M))` (R239). -/
def incOp (m : Byte) (s : State) : State := s.setNZ (m + 1)
/-- `f(M) = (M - 1) mod 256` (R240). -/
def decValue (m : Byte) (_ : State) : Byte := m - 1
/-- `SetNZ(f(M))` (R240). -/
def decOp (m : Byte) (s : State) : State := s.setNZ (m - 1)
/-- `X <- (X + 1) mod 256; SetNZ(X)` (R241). -/
def inxOp (s : State) : State := State.setNZ { s with x := s.x + 1 } (s.x + 1)
/-- `Y <- (Y + 1) mod 256; SetNZ(Y)` (R242). -/
def inyOp (s : State) : State := State.setNZ { s with y := s.y + 1 } (s.y + 1)
/-- `X <- (X - 1) mod 256; SetNZ(X)` (R243). -/
def dexOp (s : State) : State := State.setNZ { s with x := s.x - 1 } (s.x - 1)
/-- `Y <- (Y - 1) mod 256; SetNZ(Y)` (R244). -/
def deyOp (s : State) : State := State.setNZ { s with y := s.y - 1 } (s.y - 1)

/-- ADC, indirect-X (61; R230). -/
def execAdcIzx (z : Byte) (s : State) : Host.Outcome State Fault Refusal := readInstr (.izx z) adcOp s

/-- ADC, zero-page (65; R230). -/
def execAdcZp (z : Byte) (s : State) : Host.Outcome State Fault Refusal := readInstr (.zp z) adcOp s

/-- ADC, immediate (69; R230). -/
def execAdcImm (d : Byte) (s : State) : Host.Outcome State Fault Refusal := immInstr d adcOp s

/-- ADC, absolute (6D; R230). -/
def execAdcAbs (a : Word) (s : State) : Host.Outcome State Fault Refusal := readInstr (.abs a) adcOp s

/-- ADC, indirect-Y (71; R230). -/
def execAdcIzy (z : Byte) (s : State) : Host.Outcome State Fault Refusal := readInstr (.izy z) adcOp s

/-- ADC, zero-page-X (75; R230). -/
def execAdcZpx (z : Byte) (s : State) : Host.Outcome State Fault Refusal := readInstr (.zpx z) adcOp s

/-- ADC, absolute-Y (79; R230). -/
def execAdcAby (a : Word) (s : State) : Host.Outcome State Fault Refusal := readInstr (.aby a) adcOp s

/-- ADC, absolute-X (7D; R230). -/
def execAdcAbx (a : Word) (s : State) : Host.Outcome State Fault Refusal := readInstr (.abx a) adcOp s

/-- SBC, indirect-X (E1; R231). -/
def execSbcIzx (z : Byte) (s : State) : Host.Outcome State Fault Refusal := readInstr (.izx z) sbcOp s

/-- SBC, zero-page (E5; R231). -/
def execSbcZp (z : Byte) (s : State) : Host.Outcome State Fault Refusal := readInstr (.zp z) sbcOp s

/-- SBC, immediate (E9; R231). -/
def execSbcImm (d : Byte) (s : State) : Host.Outcome State Fault Refusal := immInstr d sbcOp s

/-- SBC, absolute (ED; R231). -/
def execSbcAbs (a : Word) (s : State) : Host.Outcome State Fault Refusal := readInstr (.abs a) sbcOp s

/-- SBC, indirect-Y (F1; R231). -/
def execSbcIzy (z : Byte) (s : State) : Host.Outcome State Fault Refusal := readInstr (.izy z) sbcOp s

/-- SBC, zero-page-X (F5; R231). -/
def execSbcZpx (z : Byte) (s : State) : Host.Outcome State Fault Refusal := readInstr (.zpx z) sbcOp s

/-- SBC, absolute-Y (F9; R231). -/
def execSbcAby (a : Word) (s : State) : Host.Outcome State Fault Refusal := readInstr (.aby a) sbcOp s

/-- SBC, absolute-X (FD; R231). -/
def execSbcAbx (a : Word) (s : State) : Host.Outcome State Fault Refusal := readInstr (.abx a) sbcOp s

/-- AND, indirect-X (21; R232). -/
def execAndIzx (z : Byte) (s : State) : Host.Outcome State Fault Refusal := readInstr (.izx z) andOp s

/-- AND, zero-page (25; R232). -/
def execAndZp (z : Byte) (s : State) : Host.Outcome State Fault Refusal := readInstr (.zp z) andOp s

/-- AND, immediate (29; R232). -/
def execAndImm (d : Byte) (s : State) : Host.Outcome State Fault Refusal := immInstr d andOp s

/-- AND, absolute (2D; R232). -/
def execAndAbs (a : Word) (s : State) : Host.Outcome State Fault Refusal := readInstr (.abs a) andOp s

/-- AND, indirect-Y (31; R232). -/
def execAndIzy (z : Byte) (s : State) : Host.Outcome State Fault Refusal := readInstr (.izy z) andOp s

/-- AND, zero-page-X (35; R232). -/
def execAndZpx (z : Byte) (s : State) : Host.Outcome State Fault Refusal := readInstr (.zpx z) andOp s

/-- AND, absolute-Y (39; R232). -/
def execAndAby (a : Word) (s : State) : Host.Outcome State Fault Refusal := readInstr (.aby a) andOp s

/-- AND, absolute-X (3D; R232). -/
def execAndAbx (a : Word) (s : State) : Host.Outcome State Fault Refusal := readInstr (.abx a) andOp s

/-- ORA, indirect-X (01; R233). -/
def execOraIzx (z : Byte) (s : State) : Host.Outcome State Fault Refusal := readInstr (.izx z) oraOp s

/-- ORA, zero-page (05; R233). -/
def execOraZp (z : Byte) (s : State) : Host.Outcome State Fault Refusal := readInstr (.zp z) oraOp s

/-- ORA, immediate (09; R233). -/
def execOraImm (d : Byte) (s : State) : Host.Outcome State Fault Refusal := immInstr d oraOp s

/-- ORA, absolute (0D; R233). -/
def execOraAbs (a : Word) (s : State) : Host.Outcome State Fault Refusal := readInstr (.abs a) oraOp s

/-- ORA, indirect-Y (11; R233). -/
def execOraIzy (z : Byte) (s : State) : Host.Outcome State Fault Refusal := readInstr (.izy z) oraOp s

/-- ORA, zero-page-X (15; R233). -/
def execOraZpx (z : Byte) (s : State) : Host.Outcome State Fault Refusal := readInstr (.zpx z) oraOp s

/-- ORA, absolute-Y (19; R233). -/
def execOraAby (a : Word) (s : State) : Host.Outcome State Fault Refusal := readInstr (.aby a) oraOp s

/-- ORA, absolute-X (1D; R233). -/
def execOraAbx (a : Word) (s : State) : Host.Outcome State Fault Refusal := readInstr (.abx a) oraOp s

/-- EOR, indirect-X (41; R234). -/
def execEorIzx (z : Byte) (s : State) : Host.Outcome State Fault Refusal := readInstr (.izx z) eorOp s

/-- EOR, zero-page (45; R234). -/
def execEorZp (z : Byte) (s : State) : Host.Outcome State Fault Refusal := readInstr (.zp z) eorOp s

/-- EOR, immediate (49; R234). -/
def execEorImm (d : Byte) (s : State) : Host.Outcome State Fault Refusal := immInstr d eorOp s

/-- EOR, absolute (4D; R234). -/
def execEorAbs (a : Word) (s : State) : Host.Outcome State Fault Refusal := readInstr (.abs a) eorOp s

/-- EOR, indirect-Y (51; R234). -/
def execEorIzy (z : Byte) (s : State) : Host.Outcome State Fault Refusal := readInstr (.izy z) eorOp s

/-- EOR, zero-page-X (55; R234). -/
def execEorZpx (z : Byte) (s : State) : Host.Outcome State Fault Refusal := readInstr (.zpx z) eorOp s

/-- EOR, absolute-Y (59; R234). -/
def execEorAby (a : Word) (s : State) : Host.Outcome State Fault Refusal := readInstr (.aby a) eorOp s

/-- EOR, absolute-X (5D; R234). -/
def execEorAbx (a : Word) (s : State) : Host.Outcome State Fault Refusal := readInstr (.abx a) eorOp s

/-- CMP, indirect-X (C1; R235). -/
def execCmpIzx (z : Byte) (s : State) : Host.Outcome State Fault Refusal := readInstr (.izx z) cmpOp s

/-- CMP, zero-page (C5; R235). -/
def execCmpZp (z : Byte) (s : State) : Host.Outcome State Fault Refusal := readInstr (.zp z) cmpOp s

/-- CMP, immediate (C9; R235). -/
def execCmpImm (d : Byte) (s : State) : Host.Outcome State Fault Refusal := immInstr d cmpOp s

/-- CMP, absolute (CD; R235). -/
def execCmpAbs (a : Word) (s : State) : Host.Outcome State Fault Refusal := readInstr (.abs a) cmpOp s

/-- CMP, indirect-Y (D1; R235). -/
def execCmpIzy (z : Byte) (s : State) : Host.Outcome State Fault Refusal := readInstr (.izy z) cmpOp s

/-- CMP, zero-page-X (D5; R235). -/
def execCmpZpx (z : Byte) (s : State) : Host.Outcome State Fault Refusal := readInstr (.zpx z) cmpOp s

/-- CMP, absolute-Y (D9; R235). -/
def execCmpAby (a : Word) (s : State) : Host.Outcome State Fault Refusal := readInstr (.aby a) cmpOp s

/-- CMP, absolute-X (DD; R235). -/
def execCmpAbx (a : Word) (s : State) : Host.Outcome State Fault Refusal := readInstr (.abx a) cmpOp s

/-- CPX, immediate (E0; R236). -/
def execCpxImm (d : Byte) (s : State) : Host.Outcome State Fault Refusal := immInstr d cpxOp s

/-- CPX, zero-page (E4; R236). -/
def execCpxZp (z : Byte) (s : State) : Host.Outcome State Fault Refusal := readInstr (.zp z) cpxOp s

/-- CPX, absolute (EC; R236). -/
def execCpxAbs (a : Word) (s : State) : Host.Outcome State Fault Refusal := readInstr (.abs a) cpxOp s

/-- CPY, immediate (C0; R237). -/
def execCpyImm (d : Byte) (s : State) : Host.Outcome State Fault Refusal := immInstr d cpyOp s

/-- CPY, zero-page (C4; R237). -/
def execCpyZp (z : Byte) (s : State) : Host.Outcome State Fault Refusal := readInstr (.zp z) cpyOp s

/-- CPY, absolute (CC; R237). -/
def execCpyAbs (a : Word) (s : State) : Host.Outcome State Fault Refusal := readInstr (.abs a) cpyOp s

/-- BIT, zero-page (24; R238). -/
def execBitZp (z : Byte) (s : State) : Host.Outcome State Fault Refusal := readInstr (.zp z) bitOp s

/-- BIT, absolute (2C; R238). -/
def execBitAbs (a : Word) (s : State) : Host.Outcome State Fault Refusal := readInstr (.abs a) bitOp s

/-- INC, zero-page (E6; R239). -/
def execIncZp (z : Byte) (s : State) : Host.Outcome State Fault Refusal := rmwInstr (.zp z) incValue incOp s

/-- INC, absolute (EE; R239). -/
def execIncAbs (a : Word) (s : State) : Host.Outcome State Fault Refusal := rmwInstr (.abs a) incValue incOp s

/-- INC, zero-page-X (F6; R239). -/
def execIncZpx (z : Byte) (s : State) : Host.Outcome State Fault Refusal := rmwInstr (.zpx z) incValue incOp s

/-- INC, absolute-X (FE; R239). -/
def execIncAbx (a : Word) (s : State) : Host.Outcome State Fault Refusal := rmwInstr (.abx a) incValue incOp s

/-- DEC, zero-page (C6; R240). -/
def execDecZp (z : Byte) (s : State) : Host.Outcome State Fault Refusal := rmwInstr (.zp z) decValue decOp s

/-- DEC, absolute (CE; R240). -/
def execDecAbs (a : Word) (s : State) : Host.Outcome State Fault Refusal := rmwInstr (.abs a) decValue decOp s

/-- DEC, zero-page-X (D6; R240). -/
def execDecZpx (z : Byte) (s : State) : Host.Outcome State Fault Refusal := rmwInstr (.zpx z) decValue decOp s

/-- DEC, absolute-X (DE; R240). -/
def execDecAbx (a : Word) (s : State) : Host.Outcome State Fault Refusal := rmwInstr (.abx a) decValue decOp s

/-- INX, implied (E8; R241). -/
def execInx (s : State) : Host.Outcome State Fault Refusal := impInstr inxOp s

/-- INY, implied (C8; R242). -/
def execIny (s : State) : Host.Outcome State Fault Refusal := impInstr inyOp s

/-- DEX, implied (CA; R243). -/
def execDex (s : State) : Host.Outcome State Fault Refusal := impInstr dexOp s

/-- DEY, implied (88; R244). -/
def execDey (s : State) : Host.Outcome State Fault Refusal := impInstr deyOp s

end Sys2Proof.Machine
end

