-- ==== Sys2Proof/Machine/Control.lean ====
section
/-! DEFINITION. Jumps, subroutines, BRK and RTI, and the branches (44_control_stack_flags.md R300 to R314). -/

namespace Sys2Proof.Machine

/-- JMP absolute (4C; R300): the operand fetches and the jump. -/
def execJmpAbs (a : Word) (s : State) : Host.Outcome State Fault Refusal :=
  .next { s.fetchOpcode.onFetch.onFetch with pc := a }

/-- The address of the high byte of an indirect jump's target, on the pointer's own page: the page-wrap bug (R171, R301). -/
def indirectHighAddress (p : Word) : Word := w16 (hi p) (lo p + 1)

/-- JMP indirect (6C; R301): the target's low byte from the pointer, its high byte from the same page. -/
def execJmpInd (p : Word) (s : State) : Host.Outcome State Fault Refusal :=
  let s3 := s.fetchOpcode.onFetch.onFetch
  let s4 := s3.onRead p
  let s5 := s4.onRead (indirectHighAddress p)
  .next { s5 with pc := w16 (s4.readValue (indirectHighAddress p)) (s3.readValue p) }

/-- JSR (20; R302): the low target byte is fetched, the address of the third byte is pushed, and only then the high target
byte is read at PC, so it is the byte that memory holds after the pushes (log 16). -/
def execJsr (a : Word) (s : State) : Host.Outcome State Fault Refusal :=
  let s3 := s.fetchOpcode.onFetch.touchStack
  let s5 := (s3.push (hi s3.pc)).push (lo s3.pc)
  .next { s5.onRead s5.pc with pc := w16 (s5.readValue s5.pc) (lo a) }

/-- RTS (60; R303): pull the return address, low byte first, read at it, and add 1. -/
def execRts (s : State) : Host.Outcome State Fault Refusal :=
  let s3 := (s.fetchOpcode.onRead s.fetchOpcode.pc).touchStack
  let s4 := s3.onPull
  let s5 := { s4.onPull with pc := w16 s4.pullValue s3.pullValue }
  .next s5.onFetch

/-- BRK (00; R305, 60_exceptions.md R410): the padding byte is read and skipped, then the exception entry with B = 1. -/
def execBrk (s : State) : Host.Outcome State Fault Refusal :=
  .next (s.fetchOpcode.onFetch.enterVector true Config.irqVector)

/-- RTI (40; R304, 60_exceptions.md R411). -/
def execRti (s : State) : Host.Outcome State Fault Refusal :=
  .next (s.fetchOpcode.onRead s.fetchOpcode.pc).touchStack.returnFromVector

/-- `taken = (N == 0)` (R307). -/
def bplTaken (s : State) : Bool := !s.flags.n
/-- `taken = (N == 1)` (R308). -/
def bmiTaken (s : State) : Bool := s.flags.n
/-- `taken = (V == 0)` (R309). -/
def bvcTaken (s : State) : Bool := !s.flags.v
/-- `taken = (V == 1)` (R310). -/
def bvsTaken (s : State) : Bool := s.flags.v
/-- `taken = (C == 0)` (R311). -/
def bccTaken (s : State) : Bool := !s.flags.c
/-- `taken = (C == 1)` (R312). -/
def bcsTaken (s : State) : Bool := s.flags.c
/-- `taken = (Z == 0)` (R313). -/
def bneTaken (s : State) : Bool := !s.flags.z
/-- `taken = (Z == 1)` (R314). -/
def beqTaken (s : State) : Bool := s.flags.z

/-- BPL, relative (10; R307). -/
def execBpl (d : Byte) (s : State) : Host.Outcome State Fault Refusal := branchInstr (bplTaken s) d s

/-- BMI, relative (30; R308). -/
def execBmi (d : Byte) (s : State) : Host.Outcome State Fault Refusal := branchInstr (bmiTaken s) d s

/-- BVC, relative (50; R309). -/
def execBvc (d : Byte) (s : State) : Host.Outcome State Fault Refusal := branchInstr (bvcTaken s) d s

/-- BVS, relative (70; R310). -/
def execBvs (d : Byte) (s : State) : Host.Outcome State Fault Refusal := branchInstr (bvsTaken s) d s

/-- BCC, relative (90; R311). -/
def execBcc (d : Byte) (s : State) : Host.Outcome State Fault Refusal := branchInstr (bccTaken s) d s

/-- BCS, relative (B0; R312). -/
def execBcs (d : Byte) (s : State) : Host.Outcome State Fault Refusal := branchInstr (bcsTaken s) d s

/-- BNE, relative (D0; R313). -/
def execBne (d : Byte) (s : State) : Host.Outcome State Fault Refusal := branchInstr (bneTaken s) d s

/-- BEQ, relative (F0; R314). -/
def execBeq (d : Byte) (s : State) : Host.Outcome State Fault Refusal := branchInstr (beqTaken s) d s

end Sys2Proof.Machine
end

