-- ==== Sys2Proof/Machine/LoadStore.lean ====
section
/-! DEFINITION. Load, store and register-transfer instructions (42_load_store_transfer.md). An `…Op` is what the executor does with the
registers and flags, an `…Value` the byte a store writes; a meaning `exec…` puts it into its mode's access sequence. -/

namespace Sys2Proof.Machine

/-- `A <- M; SetNZ(M)` (R200). -/
def ldaOp (m : Byte) (s : State) : State := State.setNZ { s with a := m } m
/-- `X <- M; SetNZ(M)` (R201). -/
def ldxOp (m : Byte) (s : State) : State := State.setNZ { s with x := m } m
/-- `Y <- M; SetNZ(M)` (R202). -/
def ldyOp (m : Byte) (s : State) : State := State.setNZ { s with y := m } m
/-- `v = A` (R203). -/
def staValue (s : State) : Byte := s.a
/-- `v = X` (R204). -/
def stxValue (s : State) : Byte := s.x
/-- `v = Y` (R205). -/
def styValue (s : State) : Byte := s.y
/-- `X <- A; SetNZ(A)` (R206). -/
def taxOp (s : State) : State := State.setNZ { s with x := s.a } s.a
/-- `Y <- A; SetNZ(A)` (R207). -/
def tayOp (s : State) : State := State.setNZ { s with y := s.a } s.a
/-- `A <- X; SetNZ(X)` (R208). -/
def txaOp (s : State) : State := State.setNZ { s with a := s.x } s.x
/-- `A <- Y; SetNZ(Y)` (R209). -/
def tyaOp (s : State) : State := State.setNZ { s with a := s.y } s.y
/-- `X <- S; SetNZ(S)` (R210). -/
def tsxOp (s : State) : State := State.setNZ { s with x := s.sp } s.sp
/-- `S <- X`, no flag (R211). -/
def txsOp (s : State) : State := { s with sp := s.x }

/-- LDA, indirect-X (A1; R200). -/
def execLdaIzx (z : Byte) (s : State) : Host.Outcome State Fault Refusal := readInstr (.izx z) ldaOp s

/-- LDA, zero-page (A5; R200). -/
def execLdaZp (z : Byte) (s : State) : Host.Outcome State Fault Refusal := readInstr (.zp z) ldaOp s

/-- LDA, immediate (A9; R200). -/
def execLdaImm (d : Byte) (s : State) : Host.Outcome State Fault Refusal := immInstr d ldaOp s

/-- LDA, absolute (AD; R200). -/
def execLdaAbs (a : Word) (s : State) : Host.Outcome State Fault Refusal := readInstr (.abs a) ldaOp s

/-- LDA, indirect-Y (B1; R200). -/
def execLdaIzy (z : Byte) (s : State) : Host.Outcome State Fault Refusal := readInstr (.izy z) ldaOp s

/-- LDA, zero-page-X (B5; R200). -/
def execLdaZpx (z : Byte) (s : State) : Host.Outcome State Fault Refusal := readInstr (.zpx z) ldaOp s

/-- LDA, absolute-Y (B9; R200). -/
def execLdaAby (a : Word) (s : State) : Host.Outcome State Fault Refusal := readInstr (.aby a) ldaOp s

/-- LDA, absolute-X (BD; R200). -/
def execLdaAbx (a : Word) (s : State) : Host.Outcome State Fault Refusal := readInstr (.abx a) ldaOp s

/-- LDX, immediate (A2; R201). -/
def execLdxImm (d : Byte) (s : State) : Host.Outcome State Fault Refusal := immInstr d ldxOp s

/-- LDX, zero-page (A6; R201). -/
def execLdxZp (z : Byte) (s : State) : Host.Outcome State Fault Refusal := readInstr (.zp z) ldxOp s

/-- LDX, absolute (AE; R201). -/
def execLdxAbs (a : Word) (s : State) : Host.Outcome State Fault Refusal := readInstr (.abs a) ldxOp s

/-- LDX, zero-page-Y (B6; R201). -/
def execLdxZpy (z : Byte) (s : State) : Host.Outcome State Fault Refusal := readInstr (.zpy z) ldxOp s

/-- LDX, absolute-Y (BE; R201). -/
def execLdxAby (a : Word) (s : State) : Host.Outcome State Fault Refusal := readInstr (.aby a) ldxOp s

/-- LDY, immediate (A0; R202). -/
def execLdyImm (d : Byte) (s : State) : Host.Outcome State Fault Refusal := immInstr d ldyOp s

/-- LDY, zero-page (A4; R202). -/
def execLdyZp (z : Byte) (s : State) : Host.Outcome State Fault Refusal := readInstr (.zp z) ldyOp s

/-- LDY, absolute (AC; R202). -/
def execLdyAbs (a : Word) (s : State) : Host.Outcome State Fault Refusal := readInstr (.abs a) ldyOp s

/-- LDY, zero-page-X (B4; R202). -/
def execLdyZpx (z : Byte) (s : State) : Host.Outcome State Fault Refusal := readInstr (.zpx z) ldyOp s

/-- LDY, absolute-X (BC; R202). -/
def execLdyAbx (a : Word) (s : State) : Host.Outcome State Fault Refusal := readInstr (.abx a) ldyOp s

/-- STA, indirect-X (81; R203). -/
def execStaIzx (z : Byte) (s : State) : Host.Outcome State Fault Refusal := writeInstr (.izx z) staValue s

/-- STA, zero-page (85; R203). -/
def execStaZp (z : Byte) (s : State) : Host.Outcome State Fault Refusal := writeInstr (.zp z) staValue s

/-- STA, absolute (8D; R203). -/
def execStaAbs (a : Word) (s : State) : Host.Outcome State Fault Refusal := writeInstr (.abs a) staValue s

/-- STA, indirect-Y (91; R203). -/
def execStaIzy (z : Byte) (s : State) : Host.Outcome State Fault Refusal := writeInstr (.izy z) staValue s

/-- STA, zero-page-X (95; R203). -/
def execStaZpx (z : Byte) (s : State) : Host.Outcome State Fault Refusal := writeInstr (.zpx z) staValue s

/-- STA, absolute-Y (99; R203). -/
def execStaAby (a : Word) (s : State) : Host.Outcome State Fault Refusal := writeInstr (.aby a) staValue s

/-- STA, absolute-X (9D; R203). -/
def execStaAbx (a : Word) (s : State) : Host.Outcome State Fault Refusal := writeInstr (.abx a) staValue s

/-- STX, zero-page (86; R204). -/
def execStxZp (z : Byte) (s : State) : Host.Outcome State Fault Refusal := writeInstr (.zp z) stxValue s

/-- STX, absolute (8E; R204). -/
def execStxAbs (a : Word) (s : State) : Host.Outcome State Fault Refusal := writeInstr (.abs a) stxValue s

/-- STX, zero-page-Y (96; R204). -/
def execStxZpy (z : Byte) (s : State) : Host.Outcome State Fault Refusal := writeInstr (.zpy z) stxValue s

/-- STY, zero-page (84; R205). -/
def execStyZp (z : Byte) (s : State) : Host.Outcome State Fault Refusal := writeInstr (.zp z) styValue s

/-- STY, absolute (8C; R205). -/
def execStyAbs (a : Word) (s : State) : Host.Outcome State Fault Refusal := writeInstr (.abs a) styValue s

/-- STY, zero-page-X (94; R205). -/
def execStyZpx (z : Byte) (s : State) : Host.Outcome State Fault Refusal := writeInstr (.zpx z) styValue s

/-- TAX, implied (AA; R206). -/
def execTax (s : State) : Host.Outcome State Fault Refusal := impInstr taxOp s

/-- TAY, implied (A8; R207). -/
def execTay (s : State) : Host.Outcome State Fault Refusal := impInstr tayOp s

/-- TXA, implied (8A; R208). -/
def execTxa (s : State) : Host.Outcome State Fault Refusal := impInstr txaOp s

/-- TYA, implied (98; R209). -/
def execTya (s : State) : Host.Outcome State Fault Refusal := impInstr tyaOp s

/-- TSX, implied (BA; R210). -/
def execTsx (s : State) : Host.Outcome State Fault Refusal := impInstr tsxOp s

/-- TXS, implied (9A; R211). -/
def execTxs (s : State) : Host.Outcome State Fault Refusal := impInstr txsOp s

end Sys2Proof.Machine
end

