-- ==== Sys2Proof/Machine/Shift.lean ====
section
/-! DEFINITION. Shifts and rotates (43_arithmetic_logic.md R245 to R248, R252): `…Value` is the byte written to memory, `…Op` the flags of the
memory forms, `…AccOp` the accumulator form. -/

namespace Sys2Proof.Machine

/-- `f(M) = ASLf(M)` (R245). -/
def aslValue (m : Byte) (_ : State) : Byte := aslResult m
/-- The flags of `ASLf(M)` (R245). -/
def aslOp (m : Byte) (s : State) : State := { s with flags := aslFlags s.flags m }
/-- `A <- ASLf(A)` (R245). -/
def aslAccOp (s : State) : State := { s with a := aslResult s.a, flags := aslFlags s.flags s.a }
/-- `f(M) = LSRf(M)` (R246). -/
def lsrValue (m : Byte) (_ : State) : Byte := lsrResult m
/-- The flags of `LSRf(M)` (R246). -/
def lsrOp (m : Byte) (s : State) : State := { s with flags := lsrFlags s.flags m }
/-- `A <- LSRf(A)` (R246). -/
def lsrAccOp (s : State) : State := { s with a := lsrResult s.a, flags := lsrFlags s.flags s.a }
/-- `f(M) = ROLf(M)`, rotating the old C in (R247). -/
def rolValue (m : Byte) (s : State) : Byte := rolResult s.flags.c m
/-- The flags of `ROLf(M)` (R247). -/
def rolOp (m : Byte) (s : State) : State := { s with flags := rolFlags s.flags m }
/-- `A <- ROLf(A)` (R247). -/
def rolAccOp (s : State) : State := { s with a := rolResult s.flags.c s.a, flags := rolFlags s.flags s.a }
/-- `f(M) = RORf(M)`, rotating the old C in (R248). -/
def rorValue (m : Byte) (s : State) : Byte := rorResult s.flags.c m
/-- The flags of `RORf(M)` (R248). -/
def rorOp (m : Byte) (s : State) : State := { s with flags := rorFlags s.flags m }
/-- `A <- RORf(A)` (R248). -/
def rorAccOp (s : State) : State := { s with a := rorResult s.flags.c s.a, flags := rorFlags s.flags s.a }

/-- ASL, zero-page (06; R245). -/
def execAslZp (z : Byte) (s : State) : Host.Outcome State Fault Refusal := rmwInstr (.zp z) aslValue aslOp s

/-- ASL, accumulator (0A; R245). -/
def execAslAcc (s : State) : Host.Outcome State Fault Refusal := impInstr aslAccOp s

/-- ASL, absolute (0E; R245). -/
def execAslAbs (a : Word) (s : State) : Host.Outcome State Fault Refusal := rmwInstr (.abs a) aslValue aslOp s

/-- ASL, zero-page-X (16; R245). -/
def execAslZpx (z : Byte) (s : State) : Host.Outcome State Fault Refusal := rmwInstr (.zpx z) aslValue aslOp s

/-- ASL, absolute-X (1E; R245). -/
def execAslAbx (a : Word) (s : State) : Host.Outcome State Fault Refusal := rmwInstr (.abx a) aslValue aslOp s

/-- LSR, zero-page (46; R246). -/
def execLsrZp (z : Byte) (s : State) : Host.Outcome State Fault Refusal := rmwInstr (.zp z) lsrValue lsrOp s

/-- LSR, accumulator (4A; R246). -/
def execLsrAcc (s : State) : Host.Outcome State Fault Refusal := impInstr lsrAccOp s

/-- LSR, absolute (4E; R246). -/
def execLsrAbs (a : Word) (s : State) : Host.Outcome State Fault Refusal := rmwInstr (.abs a) lsrValue lsrOp s

/-- LSR, zero-page-X (56; R246). -/
def execLsrZpx (z : Byte) (s : State) : Host.Outcome State Fault Refusal := rmwInstr (.zpx z) lsrValue lsrOp s

/-- LSR, absolute-X (5E; R246). -/
def execLsrAbx (a : Word) (s : State) : Host.Outcome State Fault Refusal := rmwInstr (.abx a) lsrValue lsrOp s

/-- ROL, zero-page (26; R247). -/
def execRolZp (z : Byte) (s : State) : Host.Outcome State Fault Refusal := rmwInstr (.zp z) rolValue rolOp s

/-- ROL, accumulator (2A; R247). -/
def execRolAcc (s : State) : Host.Outcome State Fault Refusal := impInstr rolAccOp s

/-- ROL, absolute (2E; R247). -/
def execRolAbs (a : Word) (s : State) : Host.Outcome State Fault Refusal := rmwInstr (.abs a) rolValue rolOp s

/-- ROL, zero-page-X (36; R247). -/
def execRolZpx (z : Byte) (s : State) : Host.Outcome State Fault Refusal := rmwInstr (.zpx z) rolValue rolOp s

/-- ROL, absolute-X (3E; R247). -/
def execRolAbx (a : Word) (s : State) : Host.Outcome State Fault Refusal := rmwInstr (.abx a) rolValue rolOp s

/-- ROR, zero-page (66; R248). -/
def execRorZp (z : Byte) (s : State) : Host.Outcome State Fault Refusal := rmwInstr (.zp z) rorValue rorOp s

/-- ROR, accumulator (6A; R248). -/
def execRorAcc (s : State) : Host.Outcome State Fault Refusal := impInstr rorAccOp s

/-- ROR, absolute (6E; R248). -/
def execRorAbs (a : Word) (s : State) : Host.Outcome State Fault Refusal := rmwInstr (.abs a) rorValue rorOp s

/-- ROR, zero-page-X (76; R248). -/
def execRorZpx (z : Byte) (s : State) : Host.Outcome State Fault Refusal := rmwInstr (.zpx z) rorValue rorOp s

/-- ROR, absolute-X (7E; R248). -/
def execRorAbx (a : Word) (s : State) : Host.Outcome State Fault Refusal := rmwInstr (.abx a) rorValue rorOp s

end Sys2Proof.Machine
end

