-- ==== Sys2Proof/Machine/StackFlags.lean ====
section
/-! DEFINITION. Stack and flag instructions, and NOP (44_control_stack_flags.md R315 to R326). -/

namespace Sys2Proof.Machine

/-- The state after the cycles c1 and c2 of PHA, PHP, PLA and PLP: the opcode fetch and a dummy read at PC (R315 to R318). -/
def stackPrefix (s : State) : State := s.fetchOpcode.onRead s.fetchOpcode.pc

/-- PHA (48; R315). -/
def execPha (s : State) : Host.Outcome State Fault Refusal := .next ((stackPrefix s).push s.a)

/-- PHP (08; R316): bits 5 and 4 of the pushed byte are 1 (D6). -/
def execPhp (s : State) : Host.Outcome State Fault Refusal := .next ((stackPrefix s).push (packP s.flags true))

/-- PLA (68; R317). -/
def execPla (s : State) : Host.Outcome State Fault Refusal :=
  let s3 := (stackPrefix s).touchStack
  .next (State.setNZ { s3.onPull with a := s3.pullValue } s3.pullValue)

/-- PLP (28; R318): bits 5 and 4 of the pulled byte are discarded. -/
def execPlp (s : State) : Host.Outcome State Fault Refusal :=
  let s3 := (stackPrefix s).touchStack
  .next { s3.onPull with flags := unpackP s3.pullValue }

/-- `C <- 0` (R319). -/
def clcOp (s : State) : State := { s with flags := { s.flags with c := false } }
/-- `C <- 1` (R320). -/
def secOp (s : State) : State := { s with flags := { s.flags with c := true } }
/-- `I <- 0` (R321). -/
def cliOp (s : State) : State := { s with flags := { s.flags with i := false } }
/-- `I <- 1` (R322). -/
def seiOp (s : State) : State := { s with flags := { s.flags with i := true } }
/-- `V <- 0` (R323). -/
def clvOp (s : State) : State := { s with flags := { s.flags with v := false } }
/-- `D <- 0` (R324). -/
def cldOp (s : State) : State := { s with flags := { s.flags with d := false } }
/-- `D <- 1` (R325). -/
def sedOp (s : State) : State := { s with flags := { s.flags with d := true } }

/-- No register, flag or memory change (R326). -/
def nopOp (s : State) : State := s

/-- CLC, implied (18; R319). -/
def execClc (s : State) : Host.Outcome State Fault Refusal := impInstr clcOp s

/-- SEC, implied (38; R320). -/
def execSec (s : State) : Host.Outcome State Fault Refusal := impInstr secOp s

/-- CLI, implied (58; R321). -/
def execCli (s : State) : Host.Outcome State Fault Refusal := impInstr cliOp s

/-- SEI, implied (78; R322). -/
def execSei (s : State) : Host.Outcome State Fault Refusal := impInstr seiOp s

/-- CLV, implied (B8; R323). -/
def execClv (s : State) : Host.Outcome State Fault Refusal := impInstr clvOp s

/-- CLD, implied (D8; R324). -/
def execCld (s : State) : Host.Outcome State Fault Refusal := impInstr cldOp s

/-- SED, implied (F8; R325). -/
def execSed (s : State) : Host.Outcome State Fault Refusal := impInstr sedOp s

/-- NOP, implied (EA; R326). -/
def execNop (s : State) : Host.Outcome State Fault Refusal := impInstr nopOp s

end Sys2Proof.Machine
end

