-- ==== Sys2Proof/Machine/Undoc.lean ====
section
/-! DEFINITION. The other undocumented opcodes: combined loads and stores, immediate combinations, the unstable ones, the NOPs and JAM
(45_undocumented.md R355, R356, R359 to R373). -/

namespace Sys2Proof.Machine

/-- `v = A & X` (R355). -/
def saxValue (s : State) : Byte := s.a &&& s.x
/-- `A <- M; X <- M; SetNZ(M)` (R356). -/
def laxOp (m : Byte) (s : State) : State := State.setNZ { s with a := m, x := m } m
/-- `t = M & S; A <- t; X <- t; S <- t; SetNZ(t)` (R369). -/
def lasOp (m : Byte) (s : State) : State :=
  State.setNZ { s with a := m &&& s.sp, x := m &&& s.sp, sp := m &&& s.sp } (m &&& s.sp)
/-- `A <- A & M; SetNZ(A); C <- N` (R359). -/
def ancOp (m : Byte) (s : State) : State :=
  let t := s.a &&& m
  { s with a := t, flags := (s.flags.setNZ t).setC (t.getLsbD 7) }
/-- `t = A & M; A <- LSRf(t)` (R360). -/
def alrOp (m : Byte) (s : State) : State :=
  let t := s.a &&& m
  { s with a := lsrResult t, flags := lsrFlags s.flags t }
/-- AND, then a rotate with its own C and V (R361); binary only (10_state.md R31). -/
def arrOp (m : Byte) (s : State) : State :=
  { s with a := arrResult s.flags.c s.a m, flags := arrFlags s.flags s.a m }
/-- `X <- (A & X) - M`, flags as a compare of `A & X` with M (R364). -/
def sbxOp (m : Byte) (s : State) : State :=
  let t := s.a &&& s.x
  { s with x := t - m, flags := compareFlags s.flags t m }
/-- `A <- ADD(A, M ^ 0xFF, C)` (R370). -/
def usbcOp (m : Byte) (s : State) : State := addToA (m ^^^ 0xFF#8) s
/-- `(A | MAGIC) & X & M` (R362). -/
def aneResult (magic a x m : Byte) : Byte := (a ||| magic) &&& x &&& m
/-- `(A | MAGIC) & M` (R363). -/
def lxaResult (magic a m : Byte) : Byte := (a ||| magic) &&& m
/-- ANE with the constant as an argument (R362). -/
def aneWith (magic m : Byte) (s : State) : State :=
  State.setNZ { s with a := aneResult magic s.a s.x m } (aneResult magic s.a s.x m)
/-- LXA with the constant as an argument (R363). -/
def lxaWith (magic m : Byte) (s : State) : State :=
  State.setNZ { s with a := lxaResult magic s.a m, x := lxaResult magic s.a m } (lxaResult magic s.a m)
/-- ANE with the free value MAGIC (R362, D13; log 5). -/
def aneOp (m : Byte) (s : State) : State := aneWith Config.magic m s
/-- LXA with the free value MAGIC (R363, D13; log 5). -/
def lxaOp (m : Byte) (s : State) : State := lxaWith Config.magic m s
/-- `r = A & X` (R365). -/
def shaRegister (s : State) : Byte := s.a &&& s.x
/-- `r = X` (R366). -/
def shxRegister (s : State) : Byte := s.x
/-- `r = Y` (R367). -/
def shyRegister (s : State) : Byte := s.y
/-- `r = A & X`, the new S (R368). -/
def tasRegister (s : State) : Byte := s.a &&& s.x
/-- `S <- A & X` (R368). -/
def tasOp (s : State) : State := { s with sp := s.a &&& s.x }
/-- The operand byte is read and discarded (R371). -/
def nopReadOp (_ : Byte) (s : State) : State := s
/-- JAM's effect after its opcode fetch: the block halts (R372). -/
def jamHalt (op : Byte) (s : State) : State := { s with halted := .jam op }

/-- SAX, indirect-X (83; R355). -/
def execSaxIzx (z : Byte) (s : State) : Host.Outcome State Fault Refusal := writeInstr (.izx z) saxValue s

/-- SAX, zero-page (87; R355). -/
def execSaxZp (z : Byte) (s : State) : Host.Outcome State Fault Refusal := writeInstr (.zp z) saxValue s

/-- SAX, absolute (8F; R355). -/
def execSaxAbs (a : Word) (s : State) : Host.Outcome State Fault Refusal := writeInstr (.abs a) saxValue s

/-- SAX, zero-page-Y (97; R355). -/
def execSaxZpy (z : Byte) (s : State) : Host.Outcome State Fault Refusal := writeInstr (.zpy z) saxValue s

/-- LAX, indirect-X (A3; R356). -/
def execLaxIzx (z : Byte) (s : State) : Host.Outcome State Fault Refusal := readInstr (.izx z) laxOp s

/-- LAX, zero-page (A7; R356). -/
def execLaxZp (z : Byte) (s : State) : Host.Outcome State Fault Refusal := readInstr (.zp z) laxOp s

/-- LAX, absolute (AF; R356). -/
def execLaxAbs (a : Word) (s : State) : Host.Outcome State Fault Refusal := readInstr (.abs a) laxOp s

/-- LAX, indirect-Y (B3; R356). -/
def execLaxIzy (z : Byte) (s : State) : Host.Outcome State Fault Refusal := readInstr (.izy z) laxOp s

/-- LAX, zero-page-Y (B7; R356). -/
def execLaxZpy (z : Byte) (s : State) : Host.Outcome State Fault Refusal := readInstr (.zpy z) laxOp s

/-- LAX, absolute-Y (BF; R356). -/
def execLaxAby (a : Word) (s : State) : Host.Outcome State Fault Refusal := readInstr (.aby a) laxOp s

/-- LAS, absolute-Y (BB; R369). -/
def execLas (a : Word) (s : State) : Host.Outcome State Fault Refusal := readInstr (.aby a) lasOp s

/-- ANC, immediate (0B, 2B; R359). -/
def execAnc (d : Byte) (s : State) : Host.Outcome State Fault Refusal := immInstr d ancOp s

/-- ALR, immediate (4B; R360). -/
def execAlr (d : Byte) (s : State) : Host.Outcome State Fault Refusal := immInstr d alrOp s

/-- ARR, immediate (6B; R361). -/
def execArr (d : Byte) (s : State) : Host.Outcome State Fault Refusal := immInstr d arrOp s

/-- SBX, immediate (CB; R364). -/
def execSbx (d : Byte) (s : State) : Host.Outcome State Fault Refusal := immInstr d sbxOp s

/-- USBC, immediate (EB; R370). -/
def execUsbc (d : Byte) (s : State) : Host.Outcome State Fault Refusal := immInstr d usbcOp s

/-- ANE, immediate (8B; R362). -/
def execAne (d : Byte) (s : State) : Host.Outcome State Fault Refusal := immInstr d aneOp s

/-- LXA, immediate (AB; R363). -/
def execLxa (d : Byte) (s : State) : Host.Outcome State Fault Refusal := immInstr d lxaOp s

/-- SHA, indirect-Y (93; R365). -/
def execShaIzy (z : Byte) (s : State) : Host.Outcome State Fault Refusal := highAndInstr (.izy z) shaRegister s

/-- SHA, absolute-Y (9F; R365). -/
def execShaAby (a : Word) (s : State) : Host.Outcome State Fault Refusal := highAndInstr (.aby a) shaRegister s

/-- SHX, absolute-Y (9E; R366). -/
def execShx (a : Word) (s : State) : Host.Outcome State Fault Refusal := highAndInstr (.aby a) shxRegister s

/-- SHY, absolute-X (9C; R367). -/
def execShy (a : Word) (s : State) : Host.Outcome State Fault Refusal := highAndInstr (.abx a) shyRegister s

/-- TAS, absolute-Y (9B; R368): S is set, then the store of R373 with the new S. -/
def execTas (a : Word) (s : State) : Host.Outcome State Fault Refusal :=
  .next (tasOp ((MemMode.aby a).beforeWrite s |>.onWrite ((MemMode.aby a).highAndEa (tasRegister s) s)
    (highAndValue a (tasRegister s))))

/-- NOP, implied, the six undocumented bytes (1A, 3A, 5A, 7A, DA, FA; R371): as NOP 0xEA. -/
def execNopImp (s : State) : Host.Outcome State Fault Refusal := impInstr (fun t => t) s

/-- NOP, zero-page (04, 44, 64; R371). -/
def execNopZp (z : Byte) (s : State) : Host.Outcome State Fault Refusal := readInstr (.zp z) nopReadOp s

/-- NOP, absolute (0C; R371). -/
def execNopAbs (a : Word) (s : State) : Host.Outcome State Fault Refusal := readInstr (.abs a) nopReadOp s

/-- NOP, zero-page-X (14, 34, 54, 74, D4, F4; R371). -/
def execNopZpx (z : Byte) (s : State) : Host.Outcome State Fault Refusal := readInstr (.zpx z) nopReadOp s

/-- NOP, absolute-X (1C, 3C, 5C, 7C, DC, FC; R371). -/
def execNopAbx (a : Word) (s : State) : Host.Outcome State Fault Refusal := readInstr (.abx a) nopReadOp s

/-- NOP, immediate (80, 82, 89, C2, E2; R371). -/
def execNopImm (d : Byte) (s : State) : Host.Outcome State Fault Refusal := immInstr d nopReadOp s

/-- JAM (R372): the ordinary opcode fetch, after which the block is halted for good; `op` is its opcode byte. -/
def jamWith (op : Byte) (s : State) : Host.Outcome State Fault Refusal := .next (jamHalt op s.fetchOpcode)

/-- JAM, the twelve bytes (02, 12, 22, 32, 42, 52, 62, 72, 92, B2, D2, F2; R372). -/
def execJam (k : Fin 12) (s : State) : Host.Outcome State Fault Refusal := jamWith (jamOpcode k) s

end Sys2Proof.Machine
end

