-- ==== Sys2Proof/Machine/UndocRmw.lean ====
section
/-! DEFINITION. The combined Read-Modify-Write undocumented opcodes (45_undocumented.md R350 to R354, R357, R358): the second operation uses
the value `f(M)` just computed. -/

namespace Sys2Proof.Machine

/-- `f(M) = ASLf(M)` (R351). -/
def sloValue (m : Byte) (s : State) : Byte := aslValue m s
/-- The shift's C, then `A <- A | f(M); SetNZ(A)` (R351). -/
def sloOp (m : Byte) (s : State) : State := oraOp (sloValue m s) (aslOp m s)
/-- `f(M) = ROLf(M)` (R352). -/
def rlaValue (m : Byte) (s : State) : Byte := rolValue m s
/-- The rotate's C, then `A <- A & f(M); SetNZ(A)` (R352). -/
def rlaOp (m : Byte) (s : State) : State := andOp (rlaValue m s) (rolOp m s)
/-- `f(M) = LSRf(M)` (R353). -/
def sreValue (m : Byte) (s : State) : Byte := lsrValue m s
/-- The shift's C, then `A <- A ^ f(M); SetNZ(A)` (R353). -/
def sreOp (m : Byte) (s : State) : State := eorOp (sreValue m s) (lsrOp m s)
/-- `f(M) = RORf(M)` (R354). -/
def rraValue (m : Byte) (s : State) : Byte := rorValue m s
/-- The rotate's C, then `A <- ADD(A, f(M), C)` with that C (R354). -/
def rraOp (m : Byte) (s : State) : State := addToA (rraValue m s) (rorOp m s)
/-- `f(M) = (M - 1) mod 256` (R357). -/
def dcpValue (m : Byte) (_ : State) : Byte := m - 1
/-- `COMPARE(A, f(M))` (R357). -/
def dcpOp (m : Byte) (s : State) : State := { s with flags := compareFlags s.flags s.a (m - 1) }
/-- `f(M) = (M + 1) mod 256` (R358). -/
def iscValue (m : Byte) (_ : State) : Byte := m + 1
/-- `A <- ADD(A, f(M) ^ 0xFF, C)` (R358). -/
def iscOp (m : Byte) (s : State) : State := addToA ((m + 1) ^^^ 0xFF#8) s

/-- SLO, indirect-X (03; R351). -/
def execSloIzx (z : Byte) (s : State) : Host.Outcome State Fault Refusal := rmwInstr (.izx z) sloValue sloOp s

/-- SLO, zero-page (07; R351). -/
def execSloZp (z : Byte) (s : State) : Host.Outcome State Fault Refusal := rmwInstr (.zp z) sloValue sloOp s

/-- SLO, absolute (0F; R351). -/
def execSloAbs (a : Word) (s : State) : Host.Outcome State Fault Refusal := rmwInstr (.abs a) sloValue sloOp s

/-- SLO, indirect-Y (13; R351). -/
def execSloIzy (z : Byte) (s : State) : Host.Outcome State Fault Refusal := rmwInstr (.izy z) sloValue sloOp s

/-- SLO, zero-page-X (17; R351). -/
def execSloZpx (z : Byte) (s : State) : Host.Outcome State Fault Refusal := rmwInstr (.zpx z) sloValue sloOp s

/-- SLO, absolute-Y (1B; R351). -/
def execSloAby (a : Word) (s : State) : Host.Outcome State Fault Refusal := rmwInstr (.aby a) sloValue sloOp s

/-- SLO, absolute-X (1F; R351). -/
def execSloAbx (a : Word) (s : State) : Host.Outcome State Fault Refusal := rmwInstr (.abx a) sloValue sloOp s

/-- RLA, indirect-X (23; R352). -/
def execRlaIzx (z : Byte) (s : State) : Host.Outcome State Fault Refusal := rmwInstr (.izx z) rlaValue rlaOp s

/-- RLA, zero-page (27; R352). -/
def execRlaZp (z : Byte) (s : State) : Host.Outcome State Fault Refusal := rmwInstr (.zp z) rlaValue rlaOp s

/-- RLA, absolute (2F; R352). -/
def execRlaAbs (a : Word) (s : State) : Host.Outcome State Fault Refusal := rmwInstr (.abs a) rlaValue rlaOp s

/-- RLA, indirect-Y (33; R352). -/
def execRlaIzy (z : Byte) (s : State) : Host.Outcome State Fault Refusal := rmwInstr (.izy z) rlaValue rlaOp s

/-- RLA, zero-page-X (37; R352). -/
def execRlaZpx (z : Byte) (s : State) : Host.Outcome State Fault Refusal := rmwInstr (.zpx z) rlaValue rlaOp s

/-- RLA, absolute-Y (3B; R352). -/
def execRlaAby (a : Word) (s : State) : Host.Outcome State Fault Refusal := rmwInstr (.aby a) rlaValue rlaOp s

/-- RLA, absolute-X (3F; R352). -/
def execRlaAbx (a : Word) (s : State) : Host.Outcome State Fault Refusal := rmwInstr (.abx a) rlaValue rlaOp s

/-- SRE, indirect-X (43; R353). -/
def execSreIzx (z : Byte) (s : State) : Host.Outcome State Fault Refusal := rmwInstr (.izx z) sreValue sreOp s

/-- SRE, zero-page (47; R353). -/
def execSreZp (z : Byte) (s : State) : Host.Outcome State Fault Refusal := rmwInstr (.zp z) sreValue sreOp s

/-- SRE, absolute (4F; R353). -/
def execSreAbs (a : Word) (s : State) : Host.Outcome State Fault Refusal := rmwInstr (.abs a) sreValue sreOp s

/-- SRE, indirect-Y (53; R353). -/
def execSreIzy (z : Byte) (s : State) : Host.Outcome State Fault Refusal := rmwInstr (.izy z) sreValue sreOp s

/-- SRE, zero-page-X (57; R353). -/
def execSreZpx (z : Byte) (s : State) : Host.Outcome State Fault Refusal := rmwInstr (.zpx z) sreValue sreOp s

/-- SRE, absolute-Y (5B; R353). -/
def execSreAby (a : Word) (s : State) : Host.Outcome State Fault Refusal := rmwInstr (.aby a) sreValue sreOp s

/-- SRE, absolute-X (5F; R353). -/
def execSreAbx (a : Word) (s : State) : Host.Outcome State Fault Refusal := rmwInstr (.abx a) sreValue sreOp s

/-- RRA, indirect-X (63; R354). -/
def execRraIzx (z : Byte) (s : State) : Host.Outcome State Fault Refusal := rmwInstr (.izx z) rraValue rraOp s

/-- RRA, zero-page (67; R354). -/
def execRraZp (z : Byte) (s : State) : Host.Outcome State Fault Refusal := rmwInstr (.zp z) rraValue rraOp s

/-- RRA, absolute (6F; R354). -/
def execRraAbs (a : Word) (s : State) : Host.Outcome State Fault Refusal := rmwInstr (.abs a) rraValue rraOp s

/-- RRA, indirect-Y (73; R354). -/
def execRraIzy (z : Byte) (s : State) : Host.Outcome State Fault Refusal := rmwInstr (.izy z) rraValue rraOp s

/-- RRA, zero-page-X (77; R354). -/
def execRraZpx (z : Byte) (s : State) : Host.Outcome State Fault Refusal := rmwInstr (.zpx z) rraValue rraOp s

/-- RRA, absolute-Y (7B; R354). -/
def execRraAby (a : Word) (s : State) : Host.Outcome State Fault Refusal := rmwInstr (.aby a) rraValue rraOp s

/-- RRA, absolute-X (7F; R354). -/
def execRraAbx (a : Word) (s : State) : Host.Outcome State Fault Refusal := rmwInstr (.abx a) rraValue rraOp s

/-- DCP, indirect-X (C3; R357). -/
def execDcpIzx (z : Byte) (s : State) : Host.Outcome State Fault Refusal := rmwInstr (.izx z) dcpValue dcpOp s

/-- DCP, zero-page (C7; R357). -/
def execDcpZp (z : Byte) (s : State) : Host.Outcome State Fault Refusal := rmwInstr (.zp z) dcpValue dcpOp s

/-- DCP, absolute (CF; R357). -/
def execDcpAbs (a : Word) (s : State) : Host.Outcome State Fault Refusal := rmwInstr (.abs a) dcpValue dcpOp s

/-- DCP, indirect-Y (D3; R357). -/
def execDcpIzy (z : Byte) (s : State) : Host.Outcome State Fault Refusal := rmwInstr (.izy z) dcpValue dcpOp s

/-- DCP, zero-page-X (D7; R357). -/
def execDcpZpx (z : Byte) (s : State) : Host.Outcome State Fault Refusal := rmwInstr (.zpx z) dcpValue dcpOp s

/-- DCP, absolute-Y (DB; R357). -/
def execDcpAby (a : Word) (s : State) : Host.Outcome State Fault Refusal := rmwInstr (.aby a) dcpValue dcpOp s

/-- DCP, absolute-X (DF; R357). -/
def execDcpAbx (a : Word) (s : State) : Host.Outcome State Fault Refusal := rmwInstr (.abx a) dcpValue dcpOp s

/-- ISC, indirect-X (E3; R358). -/
def execIscIzx (z : Byte) (s : State) : Host.Outcome State Fault Refusal := rmwInstr (.izx z) iscValue iscOp s

/-- ISC, zero-page (E7; R358). -/
def execIscZp (z : Byte) (s : State) : Host.Outcome State Fault Refusal := rmwInstr (.zp z) iscValue iscOp s

/-- ISC, absolute (EF; R358). -/
def execIscAbs (a : Word) (s : State) : Host.Outcome State Fault Refusal := rmwInstr (.abs a) iscValue iscOp s

/-- ISC, indirect-Y (F3; R358). -/
def execIscIzy (z : Byte) (s : State) : Host.Outcome State Fault Refusal := rmwInstr (.izy z) iscValue iscOp s

/-- ISC, zero-page-X (F7; R358). -/
def execIscZpx (z : Byte) (s : State) : Host.Outcome State Fault Refusal := rmwInstr (.zpx z) iscValue iscOp s

/-- ISC, absolute-Y (FB; R358). -/
def execIscAby (a : Word) (s : State) : Host.Outcome State Fault Refusal := rmwInstr (.aby a) iscValue iscOp s

/-- ISC, absolute-X (FF; R358). -/
def execIscAbx (a : Word) (s : State) : Host.Outcome State Fault Refusal := rmwInstr (.abx a) iscValue iscOp s

end Sys2Proof.Machine
end

