-- ==== Sys2Proof/Machine/Cycle.lean ====
section
/-! DEFINITION. The FETCH / DECODE / EXECUTE machine at its own grain: tick is one call of the single-step operation, one bus
access (40_instruction_cycle.md R140 to R150). The executors are those the instruction meanings use; the resolvers are written
again here, one access a tick. Where R150 leaves the tick of a transition open, the choice is log 9's. -/

namespace Sys2Proof.Machine

/-- What the opcode table's mnemonic selects in EXECUTE (R143): a pure function of the registers and the operand for the
instructions with an operand, a sequence of their own for the others (R144, C7). -/
inductive Executor where
  /-- Group Read: the executor consumes the operand byte. -/
  | read (exe : Byte → State → State)
  /-- Group Write: the byte to store. -/
  | write (v : State → Byte)
  /-- SHA, SHX, SHY, TAS: the register of R373 and the register update. -/
  | highAnd (r : State → Byte) (exe : State → State)
  /-- Group Read-Modify-Write: the new byte, the register and flag update, and the accumulator form. -/
  | rmw (f : Byte → State → Byte) (exe : Byte → State → State) (acc : State → State)
  /-- The implied mode's 2-cycle instructions. -/
  | implied (exe : State → State)
  /-- The branches. -/
  | branch (taken : State → Bool)
  | jmp | jsr | rts | rti | brk | pha | php | pla | plp | jam

/-- The executor of a mnemonic (R143). -/
def executorOf (m : Mnemonic) : Executor :=
  match m with
  | .adc => .read adcOp
  | .alr => .read alrOp
  | .anc => .read ancOp
  | .and => .read andOp
  | .ane => .read aneOp
  | .arr => .read arrOp
  | .asl => .rmw aslValue aslOp aslAccOp
  | .bcc => .branch bccTaken
  | .bcs => .branch bcsTaken
  | .beq => .branch beqTaken
  | .bit => .read bitOp
  | .bmi => .branch bmiTaken
  | .bne => .branch bneTaken
  | .bpl => .branch bplTaken
  | .brk => .brk
  | .bvc => .branch bvcTaken
  | .bvs => .branch bvsTaken
  | .clc => .implied clcOp
  | .cld => .implied cldOp
  | .cli => .implied cliOp
  | .clv => .implied clvOp
  | .cmp => .read cmpOp
  | .cpx => .read cpxOp
  | .cpy => .read cpyOp
  | .dcp => .rmw dcpValue dcpOp id
  | .dec => .rmw decValue decOp id
  | .dex => .implied dexOp
  | .dey => .implied deyOp
  | .eor => .read eorOp
  | .inc => .rmw incValue incOp id
  | .inx => .implied inxOp
  | .iny => .implied inyOp
  | .isc => .rmw iscValue iscOp id
  | .jam => .jam
  | .jmp => .jmp
  | .jsr => .jsr
  | .las => .read lasOp
  | .lax => .read laxOp
  | .lda => .read ldaOp
  | .ldx => .read ldxOp
  | .ldy => .read ldyOp
  | .lsr => .rmw lsrValue lsrOp lsrAccOp
  | .lxa => .read lxaOp
  | .nop => .read nopReadOp
  | .ora => .read oraOp
  | .pha => .pha
  | .php => .php
  | .pla => .pla
  | .plp => .plp
  | .rla => .rmw rlaValue rlaOp id
  | .rol => .rmw rolValue rolOp rolAccOp
  | .ror => .rmw rorValue rorOp rorAccOp
  | .rra => .rmw rraValue rraOp id
  | .rti => .rti
  | .rts => .rts
  | .sax => .write saxValue
  | .sbc => .read sbcOp
  | .sbx => .read sbxOp
  | .sec => .implied secOp
  | .sed => .implied sedOp
  | .sei => .implied seiOp
  | .sha => .highAnd shaRegister id
  | .shx => .highAnd shxRegister id
  | .shy => .highAnd shyRegister id
  | .slo => .rmw sloValue sloOp id
  | .sre => .rmw sreValue sreOp id
  | .sta => .write staValue
  | .stx => .write stxValue
  | .sty => .write styValue
  | .tas => .highAnd tasRegister tasOp
  | .tax => .implied taxOp
  | .tay => .implied tayOp
  | .tsx => .implied tsxOp
  | .txa => .implied txaOp
  | .txs => .implied txsOp
  | .tya => .implied tyaOp
  | .usbc => .read usbcOp

/-- The mnemonics that skip DECODE (R144). -/
def Executor.skipsDecode : Executor → Bool
  | .jsr | .brk | .rti | .rts | .pha | .php | .pla | .plp => true
  | .read _ | .write _ | .highAnd _ _ | .rmw _ _ _ | .implied _ | .branch _ | .jmp | .jam => false

/-- What EXECUTE does when it is fused with the last DECODE tick (R145): the update of the implied, accumulator and immediate
modes (R162 to R164), the jump of JMP (44_control_stack_flags.md R300, R301), nothing for a branch not taken (R306). -/
def Executor.fused (e : Executor) (mode : Mode) (s : State) : State :=
  match e with
  | .implied exe => exe s
  | .rmw _ _ acc => acc s
  | .read exe => if mode = .imm then exe s.ic.tmp s else s
  | .jmp => { s with pc := s.ic.address }
  | .write _ | .highAnd _ _ | .branch _ | .jsr | .rts | .rti | .brk | .pha | .php | .pla | .plp | .jam => s

/-- The instruction ends: the next tick is a FETCH, which resets the instruction-cycle state (R32, R141; log 9). -/
def State.endInstr (s : State) : State := { s with ic := ICycle.boundary }

/-- The state stays in the same opstate for its next tick (R34, R140). -/
def State.nextTick (s : State) : State := { s with ic := { s.ic with tick := s.ic.tick + 1 } }

/-- The transition to EXECUTE; tick is reset (R34). -/
def State.toExecute (s : State) : State := { s with ic := { s.ic with opstate := .execute, tick := 0 } }

/-- `skip_transition` is set: this DECODE tick is fused with EXECUTE, whose update happens in the same tick (R37, R145). -/
def State.fuse (s : State) : State := { s with ic := { s.ic with skipTransition := true } }

/-- Latch an effective address, or its low byte while only that is known (R35; log 33). -/
def State.latchAddress (s : State) (a : Word) : State := { s with ic := { s.ic with address := a } }

/-- Latch a pre-offset address (R35), or what the model keeps in its place where there is none yet (log 33). -/
def State.latchBase (s : State) (a : Word) : State := { s with ic := { s.ic with baseAddress := a } }

/-- Latch the old value of a read-modify-write operand (R36), the operand of a fused immediate, or the status byte that RTI pulls
(log 9). -/
def State.latchTmp (s : State) (v : Byte) : State := { s with ic := { s.ic with tmp := v } }

/-- A FETCH tick of a running machine (R141): the arbiter, then a dummy read for an interrupt or the opcode read. JAM halts
here (45_undocumented.md R372), and so does a byte with no table entry, of which there is none (60_exceptions.md R423). DESIGN
CHOICE (log 31): a block that halts leaves the instruction-cycle state at its boundary values, which the spec leaves open (U9). -/
def fetchTick (s : State) : State :=
  match s.arbitrate with
  | some k =>
    let s1 := ((s.consume k).beginSequence).onRead s.pc
    { s1 with ic := { ICycle.boundary with opstate := .execute, intKind := some k } }
  | none =>
    let op := s.readValue s.pc
    let s1 := s.fetchOpcode
    match opcodeRow op with
    | none => { s1 with halted := .unknownOpcode op, ic := ICycle.boundary }
    | some row =>
      match row.mnemonic with
      | .jam => { jamHalt op s1 with ic := ICycle.boundary }
      | m =>
        { s1 with
          ic :=
            { ICycle.boundary with
              opstate := if (executorOf m).skipsDecode then .execute else .decode
              opcode := op
              opgroup := row.group } }

/-- The DECODE ticks once `address` is the effective address, `k` counting them from 0: a Read-Modify-Write instruction reads
the old value into tmp and writes it back (R36, R150, R161). -/
def rmwTick (k : Nat) (s : State) : State :=
  match k with
  | 0 => ((s.onRead s.ic.address).latchTmp (s.readValue s.ic.address)).nextTick
  | _ => (s.onWrite s.ic.address s.ic.tmp).toExecute

/-- The effective address is known: Read and Write go on to EXECUTE, Read-Modify-Write stays in DECODE (R150). -/
def State.resolved (s : State) : State :=
  match s.ic.opgroup with
  | .rmw => s.nextTick
  | .read | .write | .none => s.toExecute

/-- The page test on the latched addresses, equivalent to `l + idx > 0xFF`: `hi(ea) != hi(base)` (R175). -/
def State.latchedCrossed (s : State) : Bool := hi s.ic.address != hi s.ic.baseAddress

/-- The indexed address is latched: a Read instruction that crosses no page goes on to EXECUTE, every other one pays the extra
cycle (R169, R170, R173). -/
def State.indexed (s : State) : State :=
  match s.ic.opgroup with
  | .read => if s.latchedCrossed then s.nextTick else s.toExecute
  | .write | .rmw | .none => s.nextTick

/-- The extra cycle of the word-indexed modes: the dummy read at `pre` (R175). -/
def preTick (s : State) : State :=
  (s.onRead (w16 (hi s.ic.baseAddress) (lo s.ic.address))).resolved

/-- The resolver of the absolute-indexed modes with index `idx` (R169, R170). -/
def indexedTick (idx : Byte) (s : State) : State :=
  match s.ic.tick with
  | 0 => (s.onFetch.latchAddress (zext16 (s.readValue s.pc))).nextTick
  | 1 =>
    let base := w16 (s.readValue s.pc) (lo s.ic.address)
    ((s.onFetch.latchBase base).latchAddress (base + zext16 idx)).indexed
  | 2 => preTick s
  | k + 3 => rmwTick k s

/-- The resolver of the zero-page-indexed modes with index `idx` (R166, R167). -/
def zpIndexedTick (idx : Byte) (s : State) : State :=
  match s.ic.tick with
  | 0 => (s.onFetch.latchBase (zext16 (s.readValue s.pc))).nextTick
  | 1 => ((s.onRead s.ic.baseAddress).latchAddress (zext16 (lo s.ic.baseAddress + idx))).resolved
  | k + 2 => rmwTick k s

/-- The resolver of a mode: one DECODE tick (R142, R162 to R174). DESIGN CHOICE (log 33): before ea and base are known, and in the
modes that have none, address and base_address hold what the resolver keeps in them: low bytes, the zero-page operand byte of izx
and izy, the pointer of JMP indirect, the next address of a taken branch. R35 does not say. -/
def decodeTick (e : Executor) (mode : Mode) (s : State) : State :=
  match mode with
  | .imp | .acc => (s.onRead s.pc).fuse
  | .imm => (s.onFetch.latchTmp (s.readValue s.pc)).fuse
  | .zp =>
    match s.ic.tick with
    | 0 => (s.onFetch.latchAddress (zext16 (s.readValue s.pc))).resolved
    | k + 1 => rmwTick k s
  | .zpx => zpIndexedTick s.x s
  | .zpy => zpIndexedTick s.y s
  | .abs =>
    match s.ic.tick with
    | 0 => (s.onFetch.latchAddress (zext16 (s.readValue s.pc))).nextTick
    | 1 =>
      let a := w16 (s.readValue s.pc) (lo s.ic.address)
      match e with
      | .jmp => (s.onFetch.latchAddress a).fuse
      | .read _ | .write _ | .highAnd _ _ | .rmw _ _ _ | .implied _ | .branch _ | .jsr | .rts | .rti | .brk | .pha | .php | .pla
      | .plp | .jam => (s.onFetch.latchAddress a).resolved
    | k + 2 => rmwTick k s
  | .abx => indexedTick s.x s
  | .aby => indexedTick s.y s
  | .ind =>
    match s.ic.tick with
    | 0 => (s.onFetch.latchBase (zext16 (s.readValue s.pc))).nextTick
    | 1 => (s.onFetch.latchBase (w16 (s.readValue s.pc) (lo s.ic.baseAddress))).nextTick
    | 2 => ((s.onRead s.ic.baseAddress).latchAddress (zext16 (s.readValue s.ic.baseAddress))).nextTick
    | _ =>
      let a := indirectHighAddress s.ic.baseAddress
      ((s.onRead a).latchAddress (w16 (s.readValue a) (lo s.ic.address))).fuse
  | .izx =>
    match s.ic.tick with
    | 0 => (s.onFetch.latchBase (zext16 (s.readValue s.pc))).nextTick
    | 1 => (s.onRead s.ic.baseAddress).nextTick
    | 2 =>
      let p := zext16 (lo s.ic.baseAddress + s.x)
      ((s.onRead p).latchAddress (zext16 (s.readValue p))).nextTick
    | 3 =>
      let p := zext16 (lo s.ic.baseAddress + s.x + 1)
      ((s.onRead p).latchAddress (w16 (s.readValue p) (lo s.ic.address))).resolved
    | k + 4 => rmwTick k s
  | .izy =>
    match s.ic.tick with
    | 0 => (s.onFetch.latchBase (zext16 (s.readValue s.pc))).nextTick
    | 1 => ((s.onRead s.ic.baseAddress).latchAddress (zext16 (s.readValue s.ic.baseAddress))).nextTick
    | 2 =>
      let p := zext16 (lo s.ic.baseAddress + 1)
      let base := w16 (s.readValue p) (lo s.ic.address)
      (((s.onRead p).latchBase base).latchAddress (base + zext16 s.y)).indexed
    | 3 => preTick s
    | k + 4 => rmwTick k s
  | .rel =>
    let target := branchTarget (s.pc + 1) (s.readValue s.pc)
    match e with
    | .branch taken =>
      if taken s then ((s.onFetch.latchBase (s.pc + 1)).latchAddress target).toExecute else s.onFetch.fuse
    | .read _ | .write _ | .highAnd _ _ | .rmw _ _ _ | .implied _ | .jmp | .jsr | .rts | .rti | .brk | .pha | .php | .pla | .plp
    | .jam => s.onFetch.fuse

/-- The ticks of the exception entry, cycles c3 to c7 of BRK and of the interrupt sequences, `k` counting from 0 (60_exceptions.md
R407). I is set in the final tick, since no flag changes before it (40_instruction_cycle.md R143; log 32). -/
def entryTick (b : Bool) (vec : Word) (k : Nat) (s : State) : State :=
  match k with
  | 0 => (s.push (hi s.pc)).nextTick
  | 1 => (s.push (lo s.pc)).nextTick
  | 2 => (s.push (packP s.flags b)).nextTick
  | 3 => ((s.onRead vec).latchAddress (zext16 (s.readValue vec))).nextTick
  | _ =>
    State.endInstr
      { s.onRead (vec + 1) with
        pc := w16 (s.readValue (vec + 1)) (lo s.ic.address), flags := { s.flags with i := true } }

/-- The EXECUTE ticks of JSR (44_control_stack_flags.md R302). -/
def jsrTick (s : State) : State :=
  match s.ic.tick with
  | 0 => (s.onFetch.latchAddress (zext16 (s.readValue s.pc))).nextTick
  | 1 => s.touchStack.nextTick
  | 2 => (s.push (hi s.pc)).nextTick
  | 3 => (s.push (lo s.pc)).nextTick
  | _ => State.endInstr { s.onRead s.pc with pc := w16 (s.readValue s.pc) (lo s.ic.address) }

/-- The EXECUTE ticks of RTS (R303). -/
def rtsTick (s : State) : State :=
  match s.ic.tick with
  | 0 => (s.onRead s.pc).nextTick
  | 1 => s.touchStack.nextTick
  | 2 => (s.onPull.latchAddress (zext16 s.pullValue)).nextTick
  | 3 => State.nextTick { s.onPull with pc := w16 s.pullValue (lo s.ic.address) }
  | _ => s.onFetch.endInstr

/-- The EXECUTE ticks of RTI (R304). The pulled status byte is latched in tmp, and the flags are loaded from it in the final tick,
since no flag changes before it (40_instruction_cycle.md R143; log 9, log 32). -/
def rtiTick (s : State) : State :=
  match s.ic.tick with
  | 0 => (s.onRead s.pc).nextTick
  | 1 => s.touchStack.nextTick
  | 2 => (s.onPull.latchTmp s.pullValue).nextTick
  | 3 => (s.onPull.latchAddress (zext16 s.pullValue)).nextTick
  | _ =>
    State.endInstr { s.onPull with pc := w16 s.pullValue (lo s.ic.address), flags := unpackP s.ic.tmp }

/-- The EXECUTE ticks of PHA and PHP, pushing `v` (R315, R316). -/
def pushTick (v : Byte) (s : State) : State :=
  match s.ic.tick with
  | 0 => (s.onRead s.pc).nextTick
  | _ => (s.push v).endInstr

/-- The EXECUTE ticks of PLA and PLP, `exe` consuming the pulled byte (R317, R318). -/
def pullTick (exe : Byte → State → State) (s : State) : State :=
  match s.ic.tick with
  | 0 => (s.onRead s.pc).nextTick
  | 1 => s.touchStack.nextTick
  | _ => (exe s.pullValue s.onPull).endInstr

/-- The EXECUTE ticks of a taken branch: the dummy read at the next instruction, and one more with the uncorrected high byte
when the target is on another page (R174, R306). -/
def branchTick (s : State) : State :=
  let next := s.ic.baseAddress
  let target := s.ic.address
  match s.ic.tick with
  | 0 =>
    if hi target = hi next then State.endInstr { s.onRead next with pc := target } else (s.onRead next).nextTick
  | _ => State.endInstr { s.onRead (w16 (hi next) (lo target)) with pc := target }

/-- One EXECUTE tick (R143, R144). -/
def executeTick (e : Executor) (s : State) : State :=
  match e with
  | .read exe => (exe (s.readValue s.ic.address) (s.onRead s.ic.address)).endInstr
  | .write v => (s.onWrite s.ic.address (v s)).endInstr
  | .highAnd r exe =>
    (exe (s.onWrite (highAndAddress s.ic.baseAddress s.ic.address s.latchedCrossed (r s))
      (highAndValue s.ic.baseAddress (r s)))).endInstr
  | .rmw f exe _ => (exe s.ic.tmp (s.onWrite s.ic.address (f s.ic.tmp s))).endInstr
  | .branch _ => branchTick s
  | .jsr => jsrTick s
  | .rts => rtsTick s
  | .rti => rtiTick s
  | .brk =>
    match s.ic.tick with
    | 0 => s.onFetch.nextTick
    | k + 1 => entryTick true Config.irqVector k s
  | .pha => pushTick s.a s
  | .php => pushTick (packP s.flags true) s
  | .pla => pullTick ldaOp s
  | .plp => pullTick (fun v t => { t with flags := unpackP v }) s
  | .implied _ | .jmp | .jam => (s.onRead s.pc).endInstr

/-- The EXECUTE ticks of an interrupt sequence: the second dummy read at PC, then the entry with B = 0 (60_exceptions.md R407). -/
def interruptTick (k : IntKind) (s : State) : State :=
  match s.ic.tick with
  | 0 => (s.onRead s.pc).nextTick
  | j + 1 => entryTick false k.vector j s

/-- A DECODE or EXECUTE tick of the latched opcode; a DECODE tick that sets `skip_transition` runs EXECUTE too (R145). With no table entry for it, which cannot be, the block halts (R423). -/
def opcodeTick (s : State) : State :=
  match opcodeRow s.ic.opcode with
  | none => { s with halted := .unknownOpcode s.ic.opcode, ic := ICycle.boundary }
  | some row =>
    match s.ic.opstate with
    | .decode =>
      let s1 := decodeTick (executorOf row.mnemonic) row.mode s
      if s1.ic.skipTransition then ((executorOf row.mnemonic).fused row.mode s1).endInstr else s1
    | .fetch | .execute => executeTick (executorOf row.mnemonic) s

/-- One tick of a running machine (R140). -/
def runningTick (s : State) : State :=
  match s.ic.opstate, s.ic.intKind with
  | .fetch, _ => fetchTick s
  | .execute, some k => interruptTick k s
  | .decode, _ => opcodeTick s
  | .execute, none => opcodeTick s

/-- The failure result of a halted block (60_exceptions.md R420). -/
def haltFault : Halted → Option Fault
  | .running => none
  | .jam op => some (.jammed op)
  | .unknownOpcode op => some (.unknownOpcode op)

/-- THE SINGLE STEP of the block: one call is one CPU cycle (R140). A halted block does nothing and answers the failure. -/
def tick (s : State) : Host.Outcome State Fault Refusal :=
  match haltFault s.halted with
  | some f => .fault f
  | none => .next (runningTick s)

/-- `n` ticks. -/
def ticks : Nat → State → Host.Outcome State Fault Refusal
  | 0, s => .next s
  | n + 1, s =>
    match tick s with
    | .next t => ticks n t
    | .fault f => .fault f
    | .refused r => .refused r

/-- Tick until the instruction in progress has ended, at most `n` times: partial progress is resumed where it was (R147). -/
def finishInstr : Nat → State → State
  | 0, s => s
  | n + 1, s => if s.ic.opstate = .fetch then s else finishInstr n (runningTick s)

end Sys2Proof.Machine
end

