-- ==== Sys2Proof/Machine/Boundary.lean ====
section
/-! DEFINITION. One transition from an instruction boundary to the next: an interrupt sequence or an instruction, taken as one
atomic step (40_instruction_cycle.md R149, D29). -/

namespace Sys2Proof.Machine

/-- The unreachable arm of the dispatch: the block halts after the opcode fetch (60_exceptions.md R423). -/
def haltUnknown (s : State) : State := { s.fetchOpcode with halted := .unknownOpcode (s.readValue s.pc) }

/-- An ordinary instruction: what the fetch reads is decoded, and its meaning performs the accesses, the fetches among them. -/
def runInstruction (s : State) : Host.Outcome State Fault Refusal :=
  match decode s.fetchBytes with
  | .ok (i, _) => exec i s
  | .error _ => .next (haltUnknown s)

/-- From an instruction boundary: the arbiter selects an interrupt sequence or an ordinary instruction (R141, 60_exceptions.md
R404, R407). -/
def fromBoundary (s : State) : Host.Outcome State Fault Refusal :=
  match s.arbitrate with
  | some k => .next ((s.consume k).interruptSequence k)
  | none => runInstruction s

/-- One transition of a running machine; an instruction in progress is first brought to its end (R147; log 10). The longest
one has at most 7 ticks after its FETCH. -/
def transition (s : State) : Host.Outcome State Fault Refusal :=
  match s.ic.opstate with
  | .fetch => fromBoundary s
  | .decode | .execute => .next (finishInstr 8 s)

/-- Where the program counter is moved to when no byte can be stored at it: 0x0200 in RAM (log 18). -/
def loadAddress : Word := 0x0200#16

/-- The three bytes at PC, put there by a loader. -/
def State.loadAtPc (s : State) (bytes : List Byte) : State :=
  ((s.loadByte s.pc (bytes.getD 0 0#8)).loadByte (s.pc + 1) (bytes.getD 1 0#8)).loadByte (s.pc + 2) (bytes.getD 2 0#8)

/-- At a boundary of a running machine with nothing for the arbiter to select: a fetch is an ordinary one (R404). -/
def State.readyToFetch (s : State) : State :=
  { s with
    ic := ICycle.boundary
    halted := .running
    nmiPending := false
    irqLine := s.irqLine && s.flags.i
    resetPending := false }

end Sys2Proof.Machine
end

