-- ==== Sys2Proof/Machine/Step.lean ====
section
/-! DEFINITION. step, one instruction or one interrupt sequence, and the loader's view of where it fetches. -/

namespace Sys2Proof.Machine

/-- ONE STEP: a halted block answers the failure and does nothing (60_exceptions.md R420); a running one goes to the next
instruction boundary (40_instruction_cycle.md R149). -/
def step (s : State) : Host.Outcome State Fault Refusal :=
  match haltFault s.halted with
  | some f => .fault f
  | none => transition s

/-- `s` with the instruction whose table bits are `w` where step fetches next, the lines quiet and the block running, so that
the very next step runs it (log 18). Where its bytes cannot be stored at PC, PC is moved to RAM. -/
def State.withFetchWord (s : State) (nbits w : Nat) : State :=
  let bytes := bytesOfTableWord nbits w
  let ready := s.readyToFetch
  let here := ready.loadAtPc bytes
  if here.fetchBytes = bytes then here else { ready with pc := loadAddress }.loadAtPc bytes

end Sys2Proof.Machine
end

