-- ==== Sys2Proof/Machine/Env.lean ====
section
/-! DEFINITION. The environment's side of the interface: the requests on the three lines, the answers of the collaborators, and
the read-only trace view (10_state.md R45, 60_exceptions.md R401 to R403, R429, R430). The environment acts between two steps; R149
says why that is enough for the lines (log 8). -/

namespace Sys2Proof.Machine

/-- What the environment can do between two steps. -/
inductive EnvEvent where
  /-- `request_nmi` (R401). -/
  | requestNmi
  /-- The `irq` level: `request_irq()` drives it to 1, `clear()` to 0 (R402, R429). -/
  | irq (level : Bool)
  /-- `request_reset` (R403). -/
  | requestReset
  /-- The bytes the collaborators will answer to the next reads of peripheral cells (R65). -/
  | answer (bytes : List Byte)
  deriving DecidableEq, Repr

/-- The NMI request latch is set; a request while it is set is absorbed (R40, R401). -/
def State.requestNmi (s : State) : State := { s with nmiPending := true }

/-- The IRQ line takes a level (R41, R402). -/
def State.driveIrq (s : State) (level : Bool) : State := { s with irqLine := level }

/-- The RESET request latch is set (R42, R403). -/
def State.requestReset (s : State) : State := { s with resetPending := true }

/-- The collaborators' coming answers (R65; log 6). -/
def State.supply (s : State) (bytes : List Byte) : State := { s with periphIn := s.periphIn ++ bytes }

/-- The state after an event. A halted block may still have its latches set (R420, D27). -/
def State.envEvent (s : State) (e : EnvEvent) : State :=
  match e with
  | .requestNmi => s.requestNmi
  | .irq level => s.driveIrq level
  | .requestReset => s.requestReset
  | .answer bytes => s.supply bytes

/-- `pending()`, the arbiter's view of the lines, with nothing consumed (R429). -/
def State.pending (s : State) : Option IntKind := s.arbitrate

end Sys2Proof.Machine
end

