-- ==== Sys2Proof/WellFormed.lean ====
section
/-! DEFINITION. What must hold before the first cycle: the checks on a cartridge image (20_memory.md R75, 60_exceptions.md R421).
A term of Instr needs no check: each of its operands is a bit vector of the width its encoding gives it (30_encoding.md R111),
and all 256 opcode bytes are assigned (R121), so every term is an instruction of the hardware. -/

namespace Sys2Proof

/-- `n` is a power of two. -/
def isPowerOfTwo (n : Nat) : Bool := (n != 0) && (2 ^ Nat.log2 n == n)

/-- The image selects the fixed-bank variant (R71, R76). -/
def CartridgeImage.mapperOk (c : CartridgeImage) : Bool := MapperKind.ofId c.mapperId == .fixedBank

/-- `prg_rom_size` is a power of two (R75). -/
def CartridgeImage.prgRomOk (c : CartridgeImage) : Bool := isPowerOfTwo c.prgRom.length

/-- `prg_ram_size` is 0 or a power of two, at most 0x2000 (R7, R75). -/
def CartridgeImage.prgRamOk (c : CartridgeImage) : Bool :=
  (c.prgRamSize == 0) || (isPowerOfTwo c.prgRamSize && decide (c.prgRamSize ≤ 0x2000))

/-- `chr_size` is 0 or a power of two (R74, R75; log 13). -/
def CartridgeImage.chrOk (c : CartridgeImage) : Bool := (c.chr.length == 0) || isPowerOfTwo c.chr.length

/-- The image makes a machine (R421). -/
def CartridgeImage.wellFormed (c : CartridgeImage) : Bool := c.mapperOk && c.prgRomOk && c.prgRamOk && c.chrOk

end Sys2Proof
end

