-- ==== Sys2Proof/Machine/Power.lean ====
section
/-! DEFINITION. Before the first cycle: the configuration check that makes a cartridge of an image, and the state at power-on
(20_memory.md R71 to R76, 60_exceptions.md R421, 10_state.md R48, 70_reset_and_hazards.md R440). -/

namespace Sys2Proof.Machine

/-- The exponent of a size: none for size 0. -/
def log2OfSize (n : Nat) : Option Nat := if n = 0 then none else some (Nat.log2 n)

/-- The configuration error of an image, if it has one (R421). DESIGN CHOICE (log 29): of several, the first in the order mapper
id, program ROM size, cartridge RAM size, character size; the spec gives no order. -/
def configError (c : CartridgeImage) : Option ConfigError :=
  if c.mapperOk then
    if c.prgRomOk then
      if c.prgRamOk then
        if c.chrOk then none else some (.chrSize c.chr.length)
      else some (.prgRamSize c.prgRamSize)
    else some (.prgRomSize c.prgRom.length)
  else
    match MapperKind.ofId c.mapperId with
    | .switchableBank => some .switchableBank
    | .fixedBank | .unsupported _ => some (.unsupportedMapper c.mapperId)

/-- The fixed-bank cartridge of an image, with the power-on contents of its cartridge RAM, or the configuration error that is
reported once, before the first cycle (R421). -/
def loadCartridge (c : CartridgeImage) (prgRam : Memory) : Except ConfigError Cartridge :=
  match configError c with
  | some e => .error e
  | none =>
    .ok {
      prgRomLog2 := Nat.log2 c.prgRom.length
      prgRom := Memory.ofBytes c.prgRom
      prgRamLog2 := log2OfSize c.prgRamSize
      prgRam := prgRam
      chrLog2 := log2OfSize c.chr.length
      chr := Memory.ofBytes c.chr
      chrIsRam := c.chrIsRam
      mirroring := c.mirroring
      battery := c.battery
      trainer := c.trainer }

/-- The state at power-on, before the first cycle (R48, R440): RESET is pending. DESIGN CHOICE (log 1): irq_line, which the spec
leaves to the environment, is 0, so that the first step is the RESET sequence unless the environment drives a line before it. -/
def State.powerOn (p : PowerOn) (c : Cartridge) : State where
  a := p.a
  x := p.x
  y := p.y
  sp := p.sp
  pc := p.pc
  flags := { n := p.n, v := p.v, d := p.d, i := p.i, z := p.z, c := p.c }
  ic := ICycle.boundary
  cycles := 0
  nmiPending := false
  irqLine := false
  resetPending := true
  halted := .running
  ram := p.ram
  cart := c
  periphIn := []
  accesses := []

/-- A machine from a cartridge image: its state at power-on, or the configuration error (R421, R440). -/
def powerOn (p : PowerOn) (image : CartridgeImage) : Except ConfigError State :=
  match loadCartridge image p.prgRam with
  | .ok c => .ok (State.powerOn p c)
  | .error e => .error e

end Sys2Proof.Machine
end

