-- ==== Sys2Proof/Machine/Trace.lean ====
section
/-! DEFINITION. The conformance trace view (60_exceptions.md R430): read-only, no bus access. -/

namespace Sys2Proof.Machine

/-- The 1 to 3 instruction bytes at PC, read without a bus access; where the opcode itself lies in a peripheral cell its length
is not known and one position is shown (log 7). -/
def State.traceBytes (s : State) : List (Option Byte) :=
  match s.peek s.pc with
  | none => [none]
  | some op => [some op, s.peek (s.pc + 1), s.peek (s.pc + 2)].take (lengthOfOpcode op)

/-- What the view samples (R430). -/
def State.traceView (s : State) : TraceView where
  pc := s.pc
  bytes := s.traceBytes
  a := s.a
  x := s.x
  y := s.y
  p := s.p
  sp := s.sp
  cycles := s.cycles

/-- The trace line, in the layout the spec leaves open (R430, D18). -/
def State.traceLine (s : State) : String := Config.traceFormat s.traceView

end Sys2Proof.Machine
end

