-- ==== Sys2Proof/Safety.lean ====
section
/-! DEFINITION. The terms in which statements speak of the machine: its registers, what an instruction leaves alone, the byte
an operand is, the cycles an instruction takes, and the invariant of a state at an instruction boundary. -/

namespace Sys2Proof.Machine

/-- The register file of 10_state.md R20, with the six flags. -/
structure Registers where
  a : Byte
  x : Byte
  y : Byte
  sp : Byte
  pc : Word
  flags : Flags
  deriving DecidableEq, Repr

/-- The register file of a state. -/
def State.registers (s : State) : Registers :=
  { a := s.a, x := s.x, y := s.y, sp := s.sp, pc := s.pc, flags := s.flags }

/-- The three interrupt lines and the instruction-cycle state are as before. That the latter stands at its reset value when an
instruction ends is log 9's choice, and log 31's in a block that JAM has halted. -/
def LinesKept (s t : State) : Prop :=
  t.nmiPending = s.nmiPending ∧ t.irqLine = s.irqLine ∧ t.resetPending = s.resetPending ∧ t.ic = s.ic

/-- As LinesKept, and the machine runs or is halted as before. -/
def ControlKept (s t : State) : Prop := LinesKept s t ∧ t.halted = s.halted

/-- Every byte of memory reads as before, and the cartridge is the same. -/
def MemoryKept (s t : State) : Prop := (∀ a, t.peek a = s.peek a) ∧ t.cart = s.cart

/-- Every byte of memory reads as before, but for the cells that answer at one of the addresses of a list. Several addresses
may have one cell (20_memory.md R62). -/
def MemoryKeptOutside (stored : List Word) (s t : State) : Prop :=
  ∀ a, (∀ b ∈ stored, s.cellAt b ≠ s.cellAt a) → t.peek a = s.peek a

/-- A store at `a` changes a byte of memory: it is RAM, one of the cells 0x4018 to 0x401F, or cartridge RAM
(20_memory.md R63, R64, R73). -/
def State.writable (s : State) (a : Word) : Bool :=
  match s.cellAt a with
  | .ram _ | .cart (.prgRam _) => true
  | .cart (.prgRom _) | .cart .unmapped | .ppu _ | .apuIo _ => false

/-- `v` has been stored at `a`: it reads back where a store changes memory, and nothing changes elsewhere (R63, R64, R73). -/
def Stored (s t : State) (a : Word) (v : Byte) : Prop := t.peek a = if s.writable a then some v else s.peek a

/-- The stores of a list, each to another cell, have been made: each address reads as its store left it, and every address of
another cell as before. -/
def MemoryAfter (s t : State) (stores : List (Word × Byte)) : Prop :=
  MemoryKeptOutside (stores.map (·.1)) s t ∧ ∀ p ∈ stores, Stored s t p.1 p.2

/-- The byte that a Read instruction consumes: the immediate, or the operand read (41_addressing_modes.md R161, R164). -/
def operandByte (i : Instr) (s : State) : Byte :=
  match i.operand with
  | .imm d => d
  | .mem m => m.operandRead s
  | .imp | .acc | .rel _ | .target _ | .ind _ => 0#8

/-- The address of the next instruction in sequence (10_state.md R25). -/
def nextPc (i : Instr) (s : State) : Word := s.pc + BitVec.ofNat 16 i.length

/-- Which branches are taken on which flags (44_control_stack_flags.md R307 to R314). -/
def branchTaken (m : Mnemonic) (f : Flags) : Bool :=
  match m with
  | .bpl => !f.n
  | .bmi => f.n
  | .bvc => !f.v
  | .bvs => f.v
  | .bcc => !f.c
  | .bcs => f.c
  | .bne => !f.z
  | .beq => f.z
  | _ => false

/-- The index addition of the operand crosses a page (41_addressing_modes.md R175). -/
def operandCrossed (i : Instr) (s : State) : Bool :=
  match i.operand with
  | .mem m => m.crossed s
  | .imp | .acc | .imm _ | .rel _ | .target _ | .ind _ => false

/-- The cycles a branch takes beyond its base cycles (R174). -/
def branchExtra (i : Instr) (s : State) : Nat :=
  match i.operand with
  | .rel d =>
    if branchTaken i.mnemonic s.flags then
      if hi (branchTarget (s.pc + 2) d) = hi (s.pc + 2) then 1 else 2
    else 0
  | .imp | .acc | .imm _ | .mem _ | .target _ | .ind _ => 0

/-- The cycle count of an instruction in a state: the table's base cycles, the page-cross cycle, the branch cycles
(40_instruction_cycle.md R151); 1 for JAM, whose opcode fetch is its only cycle (45_undocumented.md R372). -/
def instrCycles (i : Instr) (s : State) : Nat :=
  match opcodeRow i.opcode with
  | none => 0
  | some row =>
    if row.mnemonic = .jam then 1
    else row.cycles + (if row.pageCross && operandCrossed i s then 1 else 0) + branchExtra i s

/-- The kind and address of each access of the transition last started. -/
def State.accessList (s : State) : List (BusKind × Word) := s.accesses.map fun x => (x.kind, x.addr)

/-- The cells of the flat RAM array that can be reached (10_state.md R44). -/
def ramReachable (k : Nat) : Bool := decide (k < 0x800) || (decide (0x4018 ≤ k) && decide (k < 0x4020))

/-- A cartridge that the mapper can hold: each memory in canonical form and within its size, the RAM at most 0x2000 bytes. -/
abbrev Cartridge.Ok (c : Cartridge) : Prop :=
  (c.prgRom.wf = true ∧ c.prgRom.within (fun k => decide (k < c.prgRomSize)) = true) ∧
  (c.prgRam.wf = true ∧ c.prgRam.within (fun k => decide (k < c.prgRamSize)) = true) ∧
  (c.chr.wf = true ∧ c.chr.within (fun k => decide (k < c.chrSize)) = true) ∧
  c.prgRamSize ≤ 0x2000

/-- The invariant of a state at an instruction boundary: the RAM array is in canonical form and lists reachable cells only, so is
the cartridge, and the instruction-cycle state is reset. -/
abbrev State.Inv (s : State) : Prop :=
  s.ram.wf = true ∧ s.ram.within ramReachable = true ∧ Cartridge.Ok s.cart ∧ s.ic = ICycle.boundary

end Sys2Proof.Machine
end

