-- ==== Sys2Proof/Certificates/Slice0/Obligations.lean ====
section
/-! DEFINITION. The statements for the provers. The first part says again, from the spec and in plain arithmetic, the values the
statements compare the machine with; the second holds the statements. Where a clause rests on a decision or an inference of the
spec or on a choice of this model, the docstring names it. -/

namespace Sys2Proof.Claims

open Sys2Proof.Machine

/-- The instruction completes in `s`, leaves the register file `r`, and changes no memory, no line and no halt state. -/
def RunsTo (i : Instr) (s : State) (r : Registers) : Prop :=
  ∃ t, exec i s = .next t ∧ t.registers = r ∧ ControlKept s t ∧ MemoryKept s t

/-- The instruction completes in `s`, leaves the register file `r`, makes the stores of a list (each to another cell) and changes
no other memory, no line and no halt state. -/
def StoresTo (i : Instr) (s : State) (r : Registers) (stores : List (Word × Byte)) : Prop :=
  ∃ t, exec i s = .next t ∧ t.registers = r ∧ ControlKept s t ∧ MemoryAfter s t stores

/-- The flags after SetNZ of `v`: N is bit 7, Z says that `v` is 0 (10_state.md R29). -/
def withNZ (f : Flags) (v : Byte) : Flags := { f with n := decide (128 ≤ v.toNat), z := decide (v.toNat = 0) }

/-- The 9-bit sum of two bytes and a carry. -/
def sum9 (a m : Byte) (c : Bool) : Nat := a.toNat + m.toNat + c.toNat

/-- The signed sum of two bytes and a carry. -/
def signedSum (a m : Byte) (c : Bool) : Int := a.toInt + m.toInt + (c.toNat : Int)

/-- The flags after an addition (43_arithmetic_logic.md R250): C is the ninth bit, V that the signed sum is out of range. -/
def addedFlags (f : Flags) (a m : Byte) (c : Bool) : Flags :=
  withNZ { f with c := decide (256 ≤ sum9 a m c), v := decide (signedSum a m c < -128 ∨ 127 < signedSum a m c) }
    (BitVec.ofNat 8 (sum9 a m c))

/-- The register file after `A <- A + m + C` (R250). -/
def added (r : Registers) (m : Byte) : Registers :=
  { r with a := BitVec.ofNat 8 (sum9 r.a m r.flags.c), flags := addedFlags r.flags r.a m r.flags.c }

/-- `A - m - (1 - C)` as an unsigned difference (43_arithmetic_logic.md R231). -/
def difference (a m : Byte) (c : Bool) : Int := (a.toNat : Int) - m.toNat - (1 - (c.toNat : Int))

/-- `A - m - (1 - C)` as a signed difference (R231). -/
def signedDifference (a m : Byte) (c : Bool) : Int := a.toInt - m.toInt - (1 - (c.toNat : Int))

/-- The register file after `A <- A - m - (1 - C)`: C says that no borrow occurred, V that the signed difference is out of range
(R231). -/
def subtracted (r : Registers) (m : Byte) : Registers :=
  { r with
    a := BitVec.ofInt 8 (difference r.a m r.flags.c)
    flags :=
      withNZ
        { r.flags with
          c := decide (0 ≤ difference r.a m r.flags.c)
          v := decide (signedDifference r.a m r.flags.c < -128 ∨ 127 < signedDifference r.a m r.flags.c) }
        (BitVec.ofInt 8 (difference r.a m r.flags.c)) }

/-- The flags after a compare of `r` with `m`: C is `r >= m` unsigned, N and Z from the difference modulo 256 (R251). -/
def compared (f : Flags) (r m : Byte) : Flags :=
  withNZ { f with c := decide (m.toNat ≤ r.toNat) } (BitVec.ofNat 8 (256 + r.toNat - m.toNat))

/-- The byte that a shift, a rotate, an increment or a decrement makes of `m`, with the old carry `c` (R239, R240, R252,
45_undocumented.md R351 to R354, R357, R358). -/
def modified (mn : Mnemonic) (c : Bool) (m : Byte) : Byte :=
  match mn with
  | .asl | .slo => BitVec.ofNat 8 (2 * m.toNat)
  | .lsr | .sre => BitVec.ofNat 8 (m.toNat / 2)
  | .rol | .rla => BitVec.ofNat 8 (2 * m.toNat + c.toNat)
  | .ror | .rra => BitVec.ofNat 8 (m.toNat / 2 + 128 * c.toNat)
  | .inc | .isc => BitVec.ofNat 8 (m.toNat + 1)
  | .dec | .dcp => BitVec.ofNat 8 (m.toNat + 255)
  | _ => m

/-- The carry that a shift or rotate of `m` makes: the bit it moves out (R252); the old carry for the others. -/
def shiftedOut (mn : Mnemonic) (c : Bool) (m : Byte) : Bool :=
  match mn with
  | .asl | .slo | .rol | .rla => decide (128 ≤ m.toNat)
  | .lsr | .sre | .ror | .rra => decide (m.toNat % 2 = 1)
  | _ => c

/-- The effective address of a mode (41_addressing_modes.md R165 to R173): the zero-page modes and the pointers wrap inside page 0,
the others modulo 65536. The pointer bytes are those of the zero-page RAM. -/
def effectiveAddress (m : MemMode) (s : State) : Nat :=
  match m with
  | .zp z => z.toNat
  | .zpx z => (z.toNat + s.x.toNat) % 256
  | .zpy z => (z.toNat + s.y.toNat) % 256
  | .abs a => a.toNat
  | .abx a => (a.toNat + s.x.toNat) % 65536
  | .aby a => (a.toNat + s.y.toNat) % 65536
  | .izx z =>
    (s.ram.read ((z.toNat + s.x.toNat) % 256)).toNat + 256 * (s.ram.read ((z.toNat + s.x.toNat + 1) % 256)).toNat
  | .izy z =>
    ((s.ram.read z.toNat).toNat + 256 * (s.ram.read ((z.toNat + 1) % 256)).toNat + s.y.toNat) % 65536

/-- The addresses read before the effective address is known, the opcode's first (R160, R165 to R173). -/
def addressReads (m : MemMode) (s : State) : List Word :=
  match m with
  | .zp _ => [s.pc, s.pc + 1]
  | .zpx z | .zpy z => [s.pc, s.pc + 1, zext16 z]
  | .abs _ | .abx _ | .aby _ => [s.pc, s.pc + 1, s.pc + 2]
  | .izx z => [s.pc, s.pc + 1, zext16 z, zext16 (z + s.x), zext16 (z + s.x + 1)]
  | .izy z => [s.pc, s.pc + 1, zext16 z, zext16 (z + 1)]

/-- A list of addresses, all read. -/
def reads (l : List Word) : List (BusKind × Word) := l.map fun a => (.read, a)

/-- The word that memory holds at two addresses, low byte first. -/
def wordAt (s : State) (l h : Word) : Word := w16 ((s.peek h).getD 0#8) ((s.peek l).getD 0#8)

/-- The handler address at a vector (60_exceptions.md R409). -/
def vectorWord (s : State) (v : Word) : Word := wordAt s v (v + 1)

/-- Every row of the opcode table. -/
def allRows : List OpcodeRow :=
  opcodeRows0 ++ opcodeRows1 ++ opcodeRows2 ++ opcodeRows3 ++ opcodeRows4 ++ opcodeRows5 ++ opcodeRows6 ++ opcodeRows7 ++
    opcodeRows8 ++ opcodeRows9 ++ opcodeRowsA ++ opcodeRowsB ++ opcodeRowsC ++ opcodeRowsD ++ opcodeRowsE ++ opcodeRowsF

/-- The state with another D flag. -/
def withD (s : State) (b : Bool) : State := { s with flags := { s.flags with d := b } }

/-- At an instruction boundary of a running machine. -/
def AtFetch (s : State) : Prop := s.halted = .running ∧ s.ic.opstate = .fetch

/-- None of the three lines is for the arbiter to select: an ordinary fetch (60_exceptions.md R404). -/
def LinesQuiet (s : State) : Prop :=
  s.nmiPending = false ∧ (s.irqLine = false ∨ s.flags.i = true) ∧ s.resetPending = false

end Sys2Proof.Claims

section Statements

open Sys2Proof Sys2Proof.Machine Sys2Proof.Claims


/-- For every instruction, with every operand at every value its encoding admits, and every list of bytes after it: the decoder
applied to the encoding followed by those bytes answers that instruction and exactly those bytes. [30_encoding.md R110,
30_encoding.md R111, 30_encoding.md R113, 30_encoding.md R115] -/
def Obligations.DecodeOfEncode : Prop :=
  ∀ (i : Instr) (rest : List Byte), decode (encode i ++ rest) = .ok (i, rest)

/-- Whenever the decoder answers an instruction and the bytes left, the bytes it was given are the encoding of that instruction
followed by the bytes left: no two byte sequences of one length stand for one instruction, and no byte is dropped.
[30_encoding.md R110, 30_encoding.md R111, 30_encoding.md R115] -/
def Obligations.DecodedBytesAreTheEncoding : Prop :=
  ∀ (bytes : List Byte) (i : Instr) (rest : List Byte), decode bytes = .ok (i, rest) → bytes = encode i ++ rest

/-- For every opcode byte and any two bytes after it the decoder answers an instruction whose opcode is that byte, and it leaves
the bytes beyond the instruction's length. [30_encoding.md R110, 30_encoding.md R115, 30_encoding.md R119, 30_encoding.md
R121, 30_encoding.md R122] -/
def Obligations.EveryOpcodeByteDecodes : Prop :=
  ∀ (op b c : Byte) (rest : List Byte),
    ∃ i : Instr, i.opcode = op ∧ decode (op :: b :: c :: rest) = .ok (i, (b :: c :: rest).drop (i.length - 1))

/-- The table has 256 rows; 151 documented, 105 undocumented, of which 12 JAM and 27 NOP; 43 imp, 4 acc, 24 imm, 32 zp, 28 zpx,
4 zpy, 16 izx, 16 izy, 8 rel, 32 abs, 28 abx, 20 aby, 1 ind; 47, 128 and 81 of lengths 1, 2, 3; 110 Read, 22 Write, 66 RMW,
58 None. [30_encoding.md R118] -/
def Obligations.OpcodeTableCounts : Prop :=
  allRows.length = 256 ∧
    allRows.countP (·.documented) = 151 ∧
    allRows.countP (fun r => !r.documented) = 105 ∧
    allRows.countP (·.mnemonic == .jam) = 12 ∧
    allRows.countP (fun r => !r.documented && r.mnemonic == .nop) = 27 ∧
    ([Mode.imp, .acc, .imm, .zp, .zpx, .zpy, .izx, .izy, .rel, .abs, .abx, .aby, .ind].map
      fun m => allRows.countP (·.mode == m)) = [43, 4, 24, 32, 28, 4, 16, 16, 8, 32, 28, 20, 1] ∧
    ([1, 2, 3].map fun n => allRows.countP (·.mode.length == n)) = [47, 128, 81] ∧
    ([OpGroup.read, .write, .rmw, .none].map fun g => allRows.countP (·.group == g)) = [110, 22, 66, 58]

/-- A9 05 is LDA #$05, 85 10 is STA $10, 4C 00 C0 is JMP $C000, 6C FF 02 is JMP ($02FF), 20 10 C0 is JSR $C010, D0 FE is BNE
with offset FE, BD FF 12 is LDA $12FF,X, 94 FF is STY $FF,X, B1 10 is LDA ($10),Y, C7 10 is DCP $10, F2 is JAM, 0A is ASL A.
[30_encoding.md R111, 30_encoding.md R115, 95_test_vectors.md] -/
def Obligations.SpecWordsDecode : Prop :=
  (decodeTableWord 16 0x05A9 = some (.ldaImm 0x05#8) ∧ decodeTableWord 16 0x1085 = some (.staZp 0x10#8) ∧
      decodeTableWord 24 0xC0004C = some (.jmpAbs 0xC000#16) ∧ decodeTableWord 24 0x02FF6C = some (.jmpInd 0x02FF#16)) ∧
    (decodeTableWord 24 0xC01020 = some (.jsr 0xC010#16) ∧ decodeTableWord 16 0xFED0 = some (.bne 0xFE#8) ∧
      decodeTableWord 24 0x12FFBD = some (.ldaAbx 0x12FF#16) ∧ decodeTableWord 16 0xFF94 = some (.styZpx 0xFF#8)) ∧
    (decodeTableWord 16 0x10B1 = some (.ldaIzy 0x10#8) ∧ decodeTableWord 16 0x10C7 = some (.dcpZp 0x10#8) ∧
      decodeTableWord 8 0xF2 = some (.jam 11) ∧ decodeTableWord 8 0x0A = some .aslAcc)

/-- When the machine runs, is at an instruction boundary and no line is for the arbiter to select, and the bytes it fetches at
PC decode to an instruction, step is exec of it, which itself performs the fetches. Where three bytes of the block's own
memory stand at PC, PC + 1 and PC + 2, those are the bytes it fetches. [40_instruction_cycle.md R141,
40_instruction_cycle.md R149, 20_memory.md R87, 30_encoding.md R110] -/
def Obligations.StepRunsDecodedInstruction : Prop :=
  ∀ (s : State), AtFetch s → LinesQuiet s →
    (∀ i rest, decode s.fetchBytes = .ok (i, rest) → step s = exec i s) ∧
    (∀ b0 b1 b2, s.peek s.pc = some b0 → s.peek (s.pc + 1) = some b1 → s.peek (s.pc + 2) = some b2 →
      s.fetchBytes = [b0, b1, b2])

/-- For every instruction and every state exec answers a next state, whose cycle counter has gone up by the instruction's cycle
count (base cycles, the page-cross cycle, the branch cycles; 1 for JAM), and whose access sequence has that length.
[40_instruction_cycle.md R148, 40_instruction_cycle.md R151, 41_addressing_modes.md R176, 45_undocumented.md R372,
70_reset_and_hazards.md R461] -/
def Obligations.EveryInstructionCompletes : Prop :=
  ∀ (i : Instr) (s : State),
    ∃ t, exec i s = .next t ∧ t.cycles = s.cycles + instrCycles i s ∧ t.accesses.length = instrCycles i s

/-- From every state in which the machine runs, whatever PC, memory, the lines and the instruction-cycle state are, step answers
a next state, and so does the single tick. [60_exceptions.md R424, 40_instruction_cycle.md R146, 20_memory.md R77] -/
def Obligations.RunningMachineNeverFaults : Prop :=
  ∀ (s : State), s.halted = .running → (∃ t, step s = .next t) ∧ (∃ t, tick s = .next t)

/-- A Read instruction with a memory operand reads the addresses of its mode, then on a page crossing the address with the
uncorrected high byte, then the effective address; an immediate form reads PC and PC + 1; an accumulator form and the
2-cycle implied instructions (all implied ones but BRK, RTI, RTS, PHA, PHP, PLA, PLP, JAM) read PC and then PC + 1. Every
access is a read. [41_addressing_modes.md R160, 41_addressing_modes.md R161, 41_addressing_modes.md R162,
41_addressing_modes.md R163, 41_addressing_modes.md R164, 41_addressing_modes.md R165, 41_addressing_modes.md R166,
41_addressing_modes.md R168, 41_addressing_modes.md R169, 41_addressing_modes.md R172, 41_addressing_modes.md R173,
45_undocumented.md R371] -/
def Obligations.AccessesOfReadAndRegisterInstructions : Prop :=
  ∀ (i : Instr) (s : State),
    (∀ m row, i.operand = .mem m → opcodeRow i.opcode = some row → row.group = .read →
      ∃ t, exec i s = .next t ∧
        t.accessList = reads (addressReads m s ++ (if m.crossed s then [m.pre s] else []) ++ [m.ea s])) ∧
    (∀ d, i.operand = .imm d → ∃ t, exec i s = .next t ∧ t.accessList = reads [s.pc, s.pc + 1]) ∧
    (i.operand = .acc ∨ (i.operand = .imp ∧ i.mnemonic ∉ [.brk, .rti, .rts, .pha, .php, .pla, .plp, .jam]) →
      ∃ t, exec i s = .next t ∧ t.accessList = reads [s.pc, s.pc + 1])

/-- A Write instruction reads the addresses of its mode, then in the modes abx, aby and izy always the address with the
uncorrected high byte, and then writes once: STA, STX, STY and SAX at the effective address, SHA, SHX, SHY and TAS at the
address of R373. (That address is the stable behaviour, the spec's own choice: U3 to U6; log 17.) [41_addressing_modes.md
R161, 41_addressing_modes.md R165, 41_addressing_modes.md R166, 41_addressing_modes.md R168, 41_addressing_modes.md R169,
41_addressing_modes.md R172, 41_addressing_modes.md R173, 45_undocumented.md R373, 93_implementation_defined.md] -/
def Obligations.AccessesOfWriteInstructions : Prop :=
  ∀ (i : Instr) (s : State) (m : MemMode) (row : OpcodeRow), i.operand = .mem m → opcodeRow i.opcode = some row →
    row.group = .write →
    ∃ t a, exec i s = .next t ∧
      t.accessList = reads (addressReads m s ++ (if m.indexesWord then [m.pre s] else [])) ++ [(.write, a)] ∧
      (i.mnemonic ∈ [.sta, .stx, .sty, .sax] → a = m.ea s) ∧
      (i.mnemonic ∈ [.shx] → a = m.highAndEa s.x s) ∧
      (i.mnemonic ∈ [.shy] → a = m.highAndEa s.y s) ∧
      (i.mnemonic ∈ [.sha, .tas] → a = m.highAndEa (s.a &&& s.x) s)

/-- A Read-Modify-Write instruction reads the addresses of its mode, in the modes abx, aby and izy always the address with the
uncorrected high byte, and ends in three accesses at the effective address: a read of the old value M, a write of M, and a
write of the byte that its operation makes of M and of the carry before it. (The write-back is the spec's decision D20.)
[41_addressing_modes.md R161, 41_addressing_modes.md R165, 41_addressing_modes.md R166, 41_addressing_modes.md R168,
41_addressing_modes.md R169, 41_addressing_modes.md R172, 41_addressing_modes.md R173, 45_undocumented.md R350,
92_eei_decisions.md D20] -/
def Obligations.AccessesOfReadModifyWriteInstructions : Prop :=
  ∀ (i : Instr) (s : State) (m : MemMode) (row : OpcodeRow), i.operand = .mem m → opcodeRow i.opcode = some row →
    row.group = .rmw →
    ∃ t first, exec i s = .next t ∧
      t.accesses = first ++
        [⟨.read, m.ea s, m.operandRmw s⟩, ⟨.write, m.ea s, m.operandRmw s⟩,
          ⟨.write, m.ea s, modified i.mnemonic s.flags.c (m.operandRmw s)⟩] ∧
      first.map (fun x => (x.kind, x.addr)) = reads (addressReads m s ++ (if m.indexesWord then [m.pre s] else []))

/-- The effective address of each of the eight memory modes is the number the spec computes, with the zero-page wraps and the
wrap modulo 65536; and where the cell there is the block's own, the operand byte of a Read and the old value of a Read-
Modify-Write instruction is the byte memory holds there. [41_addressing_modes.md R165, 41_addressing_modes.md R166,
41_addressing_modes.md R167, 41_addressing_modes.md R168, 41_addressing_modes.md R169, 41_addressing_modes.md R170,
41_addressing_modes.md R172, 41_addressing_modes.md R173, 20_memory.md R82] -/
def Obligations.OperandAddresses : Prop :=
  ∀ (m : MemMode) (s : State),
    (m.ea s).toNat = effectiveAddress m s ∧
    (∀ v, s.peek (m.ea s) = some v → m.operandRead s = v ∧ m.operandRmw s = v)

/-- In the modes abx, aby and izy a page is crossed exactly when the low byte of base plus the index exceeds 0xFF, equivalently
when the high bytes of ea and base differ; pre has the high byte of base and the low byte of the sum, and is ea exactly when
no page is crossed. The modes zp, zpx, zpy, abs and izx never cross. A taken branch takes its fourth cycle exactly when the
high bytes of target and next differ. [R175] -/
def Obligations.PageCrossing : Prop :=
  ∀ (s : State),
    (∀ m : MemMode, (∃ w, m = .abx w ∨ m = .aby w) ∨ (∃ z, m = .izy z) →
      (m.crossed s = true ↔ 0xFF < (lo (m.base s)).toNat + (m.index s).toNat) ∧
      (m.crossed s = true ↔ hi (m.ea s) ≠ hi (m.base s)) ∧
      m.pre s = w16 (hi (m.base s)) (BitVec.ofNat 8 (((lo (m.base s)).toNat + (m.index s).toNat) % 256)) ∧
      (m.pre s = m.ea s ↔ m.crossed s = false)) ∧
    (∀ z a, MemMode.crossed (.zp z) s = false ∧ MemMode.crossed (.zpx z) s = false ∧ MemMode.crossed (.zpy z) s = false ∧
      MemMode.crossed (.izx z) s = false ∧ MemMode.crossed (.abs a) s = false) ∧
    (∀ i d, i.operand = .rel d → branchTaken i.mnemonic s.flags = true →
      ∃ t, exec i s = .next t ∧
        t.cycles = s.cycles + (if hi (branchTarget (s.pc + 2) d) ≠ hi (s.pc + 2) then 4 else 3))

/-- mirror reduces 0x0000 to 0x1FFF modulo 0x800 and 0x2000 to 0x3FFF to one of eight cells and leaves other addresses alone,
independently of the mapper; a read and a write then go by the mirrored address m: 0x2000 to 0x2007 to the PPU cell m -
0x2000, 0x4000 to 0x4017 to the APU/IO cell m - 0x4000, any other m below 0x4020 to the flat RAM array at m, and 0x4020 and
above to the mapper. [R62] -/
def Obligations.MirrorAndDispatch : Prop :=
  ∀ (a : Word),
    ((a.toNat ≤ 0x1FFF → mirror a = a &&& 0x07FF#16 ∧ mirror a = mirror (BitVec.ofNat 16 (a.toNat % 0x800))) ∧
      (0x2000 ≤ a.toNat ∧ a.toNat ≤ 0x3FFF → (mirror a).toNat = 0x2000 + (a.toNat - 0x2000) % 8) ∧
      (0x4000 ≤ a.toNat → mirror a = a)) ∧
    ∀ (s : State) (v : Byte) (m : Nat), (mirror a).toNat = m →
      (0x2000 ≤ m ∧ m ≤ 0x2007 → s.cellAt a = .ppu (m - 0x2000)) ∧
      (0x4000 ≤ m ∧ m ≤ 0x4017 → s.cellAt a = .apuIo (m - 0x4000)) ∧
      (m < 0x4020 ∧ ¬ (0x2000 ≤ m ∧ m ≤ 0x2007) ∧ ¬ (0x4000 ≤ m ∧ m ≤ 0x4017) →
        s.readValue a = s.ram.read m ∧ (s.onWrite a v).ram = s.ram.write m v) ∧
      (0x4020 ≤ m →
        s.readValue a = cpuRead s.cart (cartCell s.cart m) ∧ (s.onWrite a v).cart = cpuWrite s.cart (cartCell s.cart m) v)

/-- From 0x8000 on a read gives the program ROM byte at the address modulo the ROM size and a write changes nothing; in 0x6000
to 0x7FFF with cartridge RAM a read and a write reach its byte at the address modulo its size; every other cartridge address
reads 0 and ignores writes. The pattern pair reads the character byte modulo the size and stores there only when it is RAM;
with no character memory it reads 0 and ignores writes. (The two range boundaries are the spec's decision D11, the pattern
space its D12.) [20_memory.md R72, 20_memory.md R73, 20_memory.md R74, 20_memory.md R60, 92_eei_decisions.md D11,
92_eei_decisions.md D12] -/
def Obligations.FixedBankCartridge : Prop :=
  (∀ (s : State) (a : Word) (v : Byte),
      (0x8000 ≤ a.toNat →
        s.readValue a = s.cart.prgRom.read (a.toNat % s.cart.prgRomSize) ∧
          (s.onWrite a v).cart = s.cart ∧ (s.onWrite a v).ram = s.ram) ∧
      (0x6000 ≤ a.toNat ∧ a.toNat < 0x8000 ∧ 0 < s.cart.prgRamSize →
        s.readValue a = s.cart.prgRam.read (a.toNat % s.cart.prgRamSize) ∧
          (s.onWrite a v).cart = { s.cart with prgRam := s.cart.prgRam.write (a.toNat % s.cart.prgRamSize) v } ∧
          (s.onWrite a v).ram = s.ram) ∧
      (0x4020 ≤ a.toNat ∧ a.toNat < 0x8000 ∧ (a.toNat < 0x6000 ∨ s.cart.prgRamSize = 0) →
        s.readValue a = 0x00#8 ∧ (s.onWrite a v).cart = s.cart ∧ (s.onWrite a v).ram = s.ram)) ∧
    (∀ (c : Cartridge) (a : BitVec 13) (v : Byte),
      (0 < c.chrSize →
        ppuRead c a = c.chr.read (a.toNat % c.chrSize) ∧
          ppuWrite c a v = if c.chrIsRam then { c with chr := c.chr.write (a.toNat % c.chrSize) v } else c) ∧
      (c.chrSize = 0 → ppuRead c a = 0x00#8 ∧ ppuWrite c a v = c))

/-- A byte written to internal RAM is read back at every mirror of its address and nowhere else in RAM; a byte written to 0x4018
to 0x401F is read back there and nowhere else in RAM. A read of a peripheral cell gives the environment's next answer and
uses it up; a write to one changes no memory; each is one access of the sequence. (That the answer is the environment's is
the spec's decision D21; how the model holds answers is its log 6.) [20_memory.md R63, 20_memory.md R64, 20_memory.md R65,
20_memory.md R67, 20_memory.md R68, 92_eei_decisions.md D21] -/
def Obligations.BusCells : Prop :=
  ∀ (s : State) (a b : Word) (v : Byte),
    (a.toNat ≤ 0x1FFF ∧ b.toNat ≤ 0x1FFF →
      (s.onWrite a v).readValue b = if a.toNat % 0x800 = b.toNat % 0x800 then v else s.readValue b) ∧
    (0x4018 ≤ a.toNat ∧ a.toNat ≤ 0x401F ∧ (b.toNat ≤ 0x1FFF ∨ (0x4018 ≤ b.toNat ∧ b.toNat ≤ 0x401F)) →
      (s.onWrite a v).readValue b = if a = b then v else s.readValue b) ∧
    ((0x2000 ≤ a.toNat ∧ a.toNat ≤ 0x3FFF) ∨ (0x4000 ≤ a.toNat ∧ a.toNat ≤ 0x4017) →
      (∀ r rest, s.periphIn = r :: rest → s.readValue a = r ∧ (s.onRead a).periphIn = rest) ∧
      MemoryKept s (s.onRead a) ∧ MemoryKept s (s.onWrite a v) ∧
      (s.onRead a).accesses = s.accesses ++ [⟨.read, a, s.readValue a⟩] ∧
      (s.onWrite a v).accesses = s.accesses ++ [⟨.write, a, v⟩])

/-- For bytes a, m and a bit c, with sum = a + m + c: the result is sum mod 256, C says that the sum exceeds 0xFF, V is the
document's formula, and equally that a and m have one sign bit and the result the other, and equally that the signed sum
lies outside -128 to 127; N and Z come from the result and no other flag changes. [R250] -/
def Obligations.AddHelper : Prop :=
  ∀ (f : Flags) (a m : Byte) (c : Bool),
    (addResult a m c).toNat = sum9 a m c % 256 ∧ sum9 a m c ≤ 511 ∧
    addFlags f a m c = addedFlags f a m c ∧
    ((addFlags f a m c).c = true ↔ 255 < sum9 a m c) ∧
    ((addFlags f a m c).v = true ↔ (m ^^^ addResult a m c) &&& (a ^^^ addResult a m c) &&& 0x80#8 ≠ 0x00#8) ∧
    ((addFlags f a m c).v = true ↔ a.msb = m.msb ∧ (addResult a m c).msb ≠ a.msb) ∧
    ((addFlags f a m c).v = true ↔ signedSum a m c < -128 ∨ 127 < signedSum a m c)

/-- C becomes 1 exactly when r >= m as unsigned numbers; N and Z come from (r - m) mod 256, so Z = 1 exactly when r = m and N is
bit 7 of the difference; V, D and I are unchanged; N is not a signed less-than. [R251] -/
def Obligations.CompareHelper : Prop :=
  ∀ (f : Flags) (r m : Byte),
    compareFlags f r m = compared f r m ∧
    ((compareFlags f r m).c = true ↔ m.toNat ≤ r.toNat) ∧ ((compareFlags f r m).z = true ↔ r = m) ∧
    (compareFlags f r m).n = (r - m).msb ∧
    (compareFlags f r m).v = f.v ∧ (compareFlags f r m).d = f.d ∧ (compareFlags f r m).i = f.i ∧
    (∃ r' m' : Byte, r'.toInt < m'.toInt ∧ (compareFlags f r' m').n = false)

/-- ASLf doubles modulo 256 with C bit 7; LSRf halves with C bit 0 and N always 0; ROLf and RORf rotate the nine bits of C and
m: the new C and result, read as nine bits, are the old ones rotated by one; N and Z come from the result, and V, D, I are
unchanged. [R252] -/
def Obligations.ShiftHelpers : Prop :=
  ∀ (f : Flags) (m : Byte),
    ((aslResult m).toNat = 2 * m.toNat % 256 ∧ aslFlags f m = withNZ { f with c := m.msb } (aslResult m)) ∧
    ((lsrResult m).toNat = m.toNat / 2 ∧ lsrFlags f m = withNZ { f with c := decide (m.toNat % 2 = 1) } (lsrResult m) ∧
      (lsrFlags f m).n = false) ∧
    ((rolResult f.c m).toNat = 2 * m.toNat % 256 + f.c.toNat ∧
      rolFlags f m = withNZ { f with c := m.msb } (rolResult f.c m) ∧
      (BitVec.ofBool (rolFlags f m).c ++ rolResult f.c m : BitVec 9) = (BitVec.ofBool f.c ++ m : BitVec 9).rotateLeft 1) ∧
    ((rorResult f.c m).toNat = m.toNat / 2 + 128 * f.c.toNat ∧
      rorFlags f m = withNZ { f with c := decide (m.toNat % 2 = 1) } (rorResult f.c m) ∧
      (BitVec.ofBool (rorFlags f m).c ++ rorResult f.c m : BitVec 9) = (BitVec.ofBool f.c ++ m : BitVec 9).rotateRight 1)

/-- Every form of LDA, LDX and LDY completes, puts its operand byte into A, X or Y and sets N and Z from it; LAX puts it into A
and X; LAS puts the operand byte and S into A, X and S with N and Z from it. PC goes to the next instruction; every other
register, flag, line and byte of memory is unchanged. [42_load_store_transfer.md R200, 42_load_store_transfer.md R201,
42_load_store_transfer.md R202, 45_undocumented.md R356, 45_undocumented.md R369, 10_state.md R25] -/
def Obligations.Loads : Prop :=
  ∀ (i : Instr) (s : State),
    (i.mnemonic = .lda → RunsTo i s
      { s.registers with a := operandByte i s, pc := nextPc i s, flags := withNZ s.flags (operandByte i s) }) ∧
    (i.mnemonic = .ldx → RunsTo i s
      { s.registers with x := operandByte i s, pc := nextPc i s, flags := withNZ s.flags (operandByte i s) }) ∧
    (i.mnemonic = .ldy → RunsTo i s
      { s.registers with y := operandByte i s, pc := nextPc i s, flags := withNZ s.flags (operandByte i s) }) ∧
    (i.mnemonic = .lax → RunsTo i s
      { s.registers with
        a := operandByte i s, x := operandByte i s, pc := nextPc i s, flags := withNZ s.flags (operandByte i s) }) ∧
    (i.mnemonic = .las → RunsTo i s
      { s.registers with
        a := operandByte i s &&& s.sp, x := operandByte i s &&& s.sp, sp := operandByte i s &&& s.sp, pc := nextPc i s
        flags := withNZ s.flags (operandByte i s &&& s.sp) })

/-- Every form of STA, STX, STY and SAX completes and stores A, X, Y or A & X at its effective address; no register but PC and
no flag changes, and every byte of memory whose cell is not the one stored to reads as before. Where the address is program
ROM, unmapped or a peripheral cell, no memory changes at all. [42_load_store_transfer.md R203, 42_load_store_transfer.md
R204, 42_load_store_transfer.md R205, 45_undocumented.md R355, 20_memory.md R73] -/
def Obligations.Stores : Prop :=
  ∀ (i : Instr) (s : State),
    (i.mnemonic = .sta → ∃ m, i.operand = .mem m ∧ StoresTo i s { s.registers with pc := nextPc i s } [(m.ea s, s.a)]) ∧
    (i.mnemonic = .stx → ∃ m, i.operand = .mem m ∧ StoresTo i s { s.registers with pc := nextPc i s } [(m.ea s, s.x)]) ∧
    (i.mnemonic = .sty → ∃ m, i.operand = .mem m ∧ StoresTo i s { s.registers with pc := nextPc i s } [(m.ea s, s.y)]) ∧
    (i.mnemonic = .sax → ∃ m, i.operand = .mem m ∧
      StoresTo i s { s.registers with pc := nextPc i s } [(m.ea s, s.a &&& s.x)])

/-- With r the register value (A & X, X, Y, A & X), h the high byte of the pre-offset address and v = r & ((h + 1) mod 256),
each of these stores v at the effective address, or on a page crossing at the address whose high byte is v; TAS also puts A
& X into S. No other register but PC, no flag and no other byte of memory changes. (This is the stable behaviour, the spec's
own choice: U3 to U6; log 17.) [45_undocumented.md R365, 45_undocumented.md R366, 45_undocumented.md R367,
45_undocumented.md R368, 45_undocumented.md R373, 93_implementation_defined.md] -/
def Obligations.UnstableStores : Prop :=
  ∀ (i : Instr) (s : State),
    let stores (r : Byte) (regs : Registers) : Prop :=
      ∃ m, i.operand = .mem m ∧
        let v := r &&& BitVec.ofNat 8 (((hi (m.base s)).toNat + 1) % 256)
        StoresTo i s { regs with pc := nextPc i s } [(if m.crossed s then w16 v (lo (m.ea s)) else m.ea s, v)]
    (i.mnemonic = .sha → stores (s.a &&& s.x) s.registers) ∧
    (i.mnemonic = .shx → stores s.x s.registers) ∧
    (i.mnemonic = .shy → stores s.y s.registers) ∧
    (i.mnemonic = .tas → stores (s.a &&& s.x) { s.registers with sp := s.a &&& s.x })

/-- TAX (AA), TAY (A8), TXA (8A), TYA (98) and TSX (BA) complete, copy the register and set N and Z from the copied byte; TXS
(9A) copies X to S and sets no flag. Nothing else changes but PC, which goes up by 1. [R206, R207, R208, R209, R210, R211] -/
def Obligations.Transfers : Prop :=
  ∀ (s : State),
    (encode .tax = [0xAA#8] ∧ RunsTo .tax s { s.registers with x := s.a, pc := s.pc + 1, flags := withNZ s.flags s.a }) ∧
    (encode .tay = [0xA8#8] ∧ RunsTo .tay s { s.registers with y := s.a, pc := s.pc + 1, flags := withNZ s.flags s.a }) ∧
    (encode .txa = [0x8A#8] ∧ RunsTo .txa s { s.registers with a := s.x, pc := s.pc + 1, flags := withNZ s.flags s.x }) ∧
    (encode .tya = [0x98#8] ∧ RunsTo .tya s { s.registers with a := s.y, pc := s.pc + 1, flags := withNZ s.flags s.y }) ∧
    (encode .tsx = [0xBA#8] ∧ RunsTo .tsx s { s.registers with x := s.sp, pc := s.pc + 1, flags := withNZ s.flags s.sp }) ∧
    (encode .txs = [0x9A#8] ∧ RunsTo .txs s { s.registers with sp := s.x, pc := s.pc + 1 })

/-- INX (E8), INY (C8), DEX (CA) and DEY (88) complete in 2 cycles, add or subtract 1 modulo 256, and set N and Z from the
result; nothing else changes but PC, which goes up by 1. [R241, R242, R243, R244] -/
def Obligations.IncrementAndDecrementOfIndexRegisters : Prop :=
  ∀ (s : State),
    let up (r : Byte) : Byte := BitVec.ofNat 8 ((r.toNat + 1) % 256)
    let down (r : Byte) : Byte := BitVec.ofNat 8 ((r.toNat + 255) % 256)
    (encode .inx = [0xE8#8] ∧ instrCycles .inx s = 2 ∧
      RunsTo .inx s { s.registers with x := up s.x, pc := s.pc + 1, flags := withNZ s.flags (up s.x) }) ∧
    (encode .iny = [0xC8#8] ∧ instrCycles .iny s = 2 ∧
      RunsTo .iny s { s.registers with y := up s.y, pc := s.pc + 1, flags := withNZ s.flags (up s.y) }) ∧
    (encode .dex = [0xCA#8] ∧ instrCycles .dex s = 2 ∧
      RunsTo .dex s { s.registers with x := down s.x, pc := s.pc + 1, flags := withNZ s.flags (down s.x) }) ∧
    (encode .dey = [0x88#8] ∧ instrCycles .dey s = 2 ∧
      RunsTo .dey s { s.registers with y := down s.y, pc := s.pc + 1, flags := withNZ s.flags (down s.y) })

/-- Every form of ADC completes and adds the operand byte and C to A in binary, with C the unsigned carry and V the signed
overflow; every form of SBC, and USBC, subtracts the operand byte and 1 - C, with C saying that no borrow occurred and V
that the signed difference is out of range; N and Z come from the result. PC goes to the next instruction; D, I and
everything else is unchanged. (That SBC's overflow is that of the complemented byte is the spec's decision D25.)
[43_arithmetic_logic.md R230, 43_arithmetic_logic.md R231, 45_undocumented.md R370, 10_state.md R31, 92_eei_decisions.md
D25] -/
def Obligations.AddAndSubtract : Prop :=
  ∀ (i : Instr) (s : State),
    (i.mnemonic = .adc → RunsTo i s { added s.registers (operandByte i s) with pc := nextPc i s }) ∧
    (i.mnemonic = .sbc → RunsTo i s { subtracted s.registers (operandByte i s) with pc := nextPc i s }) ∧
    (i.mnemonic = .usbc → RunsTo i s { subtracted s.registers (operandByte i s) with pc := nextPc i s })

/-- Every form of AND, ORA and EOR completes, puts the bitwise result into A and sets N and Z from it; BIT sets Z from A & M and
copies bits 7 and 6 of M to N and V. Everything else but PC is unchanged. [43_arithmetic_logic.md R232,
43_arithmetic_logic.md R233, 43_arithmetic_logic.md R234, 43_arithmetic_logic.md R238] -/
def Obligations.Logic : Prop :=
  ∀ (i : Instr) (s : State),
    let logic (v : Byte) : Prop := RunsTo i s { s.registers with a := v, pc := nextPc i s, flags := withNZ s.flags v }
    (i.mnemonic = .and → logic (s.a &&& operandByte i s)) ∧
    (i.mnemonic = .ora → logic (s.a ||| operandByte i s)) ∧
    (i.mnemonic = .eor → logic (s.a ^^^ operandByte i s)) ∧
    (i.mnemonic = .bit → RunsTo i s
      { s.registers with
        pc := nextPc i s
        flags :=
          { s.flags with
            n := (operandByte i s).getLsbD 7, v := (operandByte i s).getLsbD 6
            z := decide (s.a &&& operandByte i s = 0x00#8) } })

/-- Every form of CMP, CPX and CPY completes and sets C, N and Z as a compare of A, X or Y with the operand byte; V, D, I, every
register but PC and every byte of memory are unchanged. [43_arithmetic_logic.md R235, 43_arithmetic_logic.md R236,
43_arithmetic_logic.md R237, 43_arithmetic_logic.md R251] -/
def Obligations.Compares : Prop :=
  ∀ (i : Instr) (s : State),
    (i.mnemonic = .cmp → RunsTo i s
      { s.registers with pc := nextPc i s, flags := compared s.flags s.a (operandByte i s) }) ∧
    (i.mnemonic = .cpx → RunsTo i s
      { s.registers with pc := nextPc i s, flags := compared s.flags s.x (operandByte i s) }) ∧
    (i.mnemonic = .cpy → RunsTo i s
      { s.registers with pc := nextPc i s, flags := compared s.flags s.y (operandByte i s) })

/-- Every memory form of INC, DEC, ASL, LSR, ROL and ROR completes and stores at its effective address the byte its operation
makes of the old value there and of the old carry; N and Z come from that byte, C from the shift or rotate and unchanged for
INC and DEC. Everything else but PC is unchanged, and so is every byte of another cell. [43_arithmetic_logic.md R239,
43_arithmetic_logic.md R240, 43_arithmetic_logic.md R245, 43_arithmetic_logic.md R246, 43_arithmetic_logic.md R247,
43_arithmetic_logic.md R248, 41_addressing_modes.md R161] -/
def Obligations.ModifiedMemory : Prop :=
  ∀ (i : Instr) (s : State) (m : MemMode), i.mnemonic ∈ [.inc, .dec, .asl, .lsr, .rol, .ror] → i.operand = .mem m →
    let old := m.operandRmw s
    let new := modified i.mnemonic s.flags.c old
    StoresTo i s
      { s.registers with
        pc := nextPc i s, flags := withNZ { s.flags with c := shiftedOut i.mnemonic s.flags.c old } new }
      [(m.ea s, new)]

/-- The accumulator form of ASL, LSR, ROL and ROR completes, puts the shifted or rotated byte into A, and sets N and Z from it
and C from the bit moved out. Everything else is unchanged but PC, which goes up by 1. [43_arithmetic_logic.md R245,
43_arithmetic_logic.md R246, 43_arithmetic_logic.md R247, 43_arithmetic_logic.md R248, 41_addressing_modes.md R163] -/
def Obligations.AccumulatorShifts : Prop :=
  ∀ (s : State) (i : Instr), i ∈ [.aslAcc, .lsrAcc, .rolAcc, .rorAcc] →
    RunsTo i s
      { s.registers with
        a := modified i.mnemonic s.flags.c s.a, pc := s.pc + 1
        flags :=
          withNZ { s.flags with c := shiftedOut i.mnemonic s.flags.c s.a } (modified i.mnemonic s.flags.c s.a) }

/-- Every form of SLO, RLA, SRE and RRA completes and stores the shifted or rotated byte at its effective address; A becomes A |
byte, A & byte or A ^ byte with N and Z from it and C from the shift, or, for RRA, A + byte + the carry of the rotate with
the flags of ADC. Everything else but PC is unchanged. [45_undocumented.md R350, 45_undocumented.md R351, 45_undocumented.md
R352, 45_undocumented.md R353, 45_undocumented.md R354] -/
def Obligations.CombinedShifts : Prop :=
  ∀ (i : Instr) (s : State),
    let run (result : Registers → Byte → Registers) : Prop :=
      ∃ m, i.operand = .mem m ∧
        let old := m.operandRmw s
        let new := modified i.mnemonic s.flags.c old
        StoresTo i s
          (result
            { s.registers with pc := nextPc i s, flags := { s.flags with c := shiftedOut i.mnemonic s.flags.c old } } new)
          [(m.ea s, new)]
    (i.mnemonic = .slo → run fun r v => { r with a := r.a ||| v, flags := withNZ r.flags (r.a ||| v) }) ∧
    (i.mnemonic = .rla → run fun r v => { r with a := r.a &&& v, flags := withNZ r.flags (r.a &&& v) }) ∧
    (i.mnemonic = .sre → run fun r v => { r with a := r.a ^^^ v, flags := withNZ r.flags (r.a ^^^ v) }) ∧
    (i.mnemonic = .rra → run added)

/-- Every form of DCP completes, stores the old value minus 1 at its effective address and sets C, N and Z as a compare of A
with that byte, A unchanged; every form of ISC stores the old value plus 1 and subtracts that byte and 1 - C from A with the
flags of SBC. Everything else but PC is unchanged. [45_undocumented.md R357, 45_undocumented.md R358, 45_undocumented.md
R350] -/
def Obligations.DecrementCompareAndIncrementSubtract : Prop :=
  ∀ (i : Instr) (s : State),
    (i.mnemonic = .dcp → ∃ m, i.operand = .mem m ∧
      let new := BitVec.ofNat 8 ((m.operandRmw s).toNat + 255)
      StoresTo i s { s.registers with pc := nextPc i s, flags := compared s.flags s.a new } [(m.ea s, new)]) ∧
    (i.mnemonic = .isc → ∃ m, i.operand = .mem m ∧
      let new := BitVec.ofNat 8 ((m.operandRmw s).toNat + 1)
      StoresTo i s { subtracted s.registers new with pc := nextPc i s } [(m.ea s, new)])

/-- ANC (0B, 2B) puts A & M into A with N and Z from it and C a copy of N; ALR (4B) shifts A & M right by one into A with C its
bit 0; ARR (6B) rotates A & M right through C into A with C bit 6 and V bit 6 xor bit 5 of the new A, whatever D is; SBX
(CB) puts (A & X) - M into X with the flags of a compare and without the incoming C. Each takes 2 cycles, and everything
else but PC is unchanged. [R359, R360, R361, R364] -/
def Obligations.ImmediateCombinations : Prop :=
  ∀ (s : State) (m : Byte),
    let done (i : Instr) (r : Registers) : Prop := instrCycles i s = 2 ∧ RunsTo i s { r with pc := s.pc + 2 }
    let t := s.a &&& m
    (∀ k, (encode (.anc k m) = [0x0B#8, m] ∨ encode (.anc k m) = [0x2B#8, m]) ∧
      done (.anc k m) { s.registers with a := t, flags := { withNZ s.flags t with c := t.getLsbD 7 } }) ∧
    (encode (.alr m) = [0x4B#8, m] ∧
      done (.alr m)
        { s.registers with
          a := BitVec.ofNat 8 (t.toNat / 2)
          flags := { withNZ s.flags (BitVec.ofNat 8 (t.toNat / 2)) with n := false, c := t.getLsbD 0 } }) ∧
    (encode (.arr m) = [0x6B#8, m] ∧
      let r := BitVec.ofNat 8 (t.toNat / 2 + 128 * s.flags.c.toNat)
      done (.arr m)
        { s.registers with
          a := r, flags := { withNZ s.flags r with c := r.getLsbD 6, v := r.getLsbD 6 ^^ r.getLsbD 5 } }) ∧
    (encode (.sbx m) = [0xCB#8, m] ∧
      done (.sbx m)
        { s.registers with
          x := BitVec.ofNat 8 (256 + (s.a &&& s.x).toNat - m.toNat), flags := compared s.flags (s.a &&& s.x) m })

/-- ANE completes and puts (A | MAGIC) & X & M into A, LXA puts (A | MAGIC) & M into A and X, N and Z coming from it and
everything else but PC being unchanged. MAGIC is a free value of the spec (D13; log 5): the last clause says, for every
constant, what the two results are, bit by bit. [45_undocumented.md R362, 45_undocumented.md R363, 92_eei_decisions.md D13] -/
def Obligations.UnstableImmediates : Prop :=
  (∀ (s : State) (m : Byte),
      RunsTo (.ane m) s
        { s.registers with
          a := aneResult Config.magic s.a s.x m, pc := s.pc + 2
          flags := withNZ s.flags (aneResult Config.magic s.a s.x m) } ∧
      RunsTo (.lxa m) s
        { s.registers with
          a := lxaResult Config.magic s.a m, x := lxaResult Config.magic s.a m, pc := s.pc + 2
          flags := withNZ s.flags (lxaResult Config.magic s.a m) }) ∧
    (∀ (magic a x m : Byte) (k : Nat),
      (aneResult magic a x m).getLsbD k = ((a.getLsbD k || magic.getLsbD k) && x.getLsbD k && m.getLsbD k) ∧
      (lxaResult magic a m).getLsbD k = ((a.getLsbD k || magic.getLsbD k) && m.getLsbD k))

/-- JMP absolute completes with PC at its operand after reading the three instruction bytes; JMP indirect completes with PC at
the word whose low byte stands at the pointer and whose high byte stands at the next address on the pointer's own page, so
that a pointer ending in 0xFF takes its high byte from the start of that page; it reads those two cells in that order. No
other register, flag or byte of memory changes. [44_control_stack_flags.md R300, 44_control_stack_flags.md R301,
41_addressing_modes.md R171, 70_reset_and_hazards.md R451] -/
def Obligations.Jumps : Prop :=
  ∀ (s : State) (p : Word),
    (RunsTo (.jmpAbs p) s { s.registers with pc := p } ∧
      ∃ t, exec (.jmpAbs p) s = .next t ∧ t.accessList = reads [s.pc, s.pc + 1, s.pc + 2]) ∧
    (∀ l h, let q := if p.toNat % 256 = 255 then p - 0xFF#16 else p + 1
      s.peek p = some l → s.peek q = some h →
      RunsTo (.jmpInd p) s { s.registers with pc := BitVec.ofNat 16 (256 * h.toNat + l.toNat) } ∧
      ∃ t, exec (.jmpInd p) s = .next t ∧ t.accessList = reads [s.pc, s.pc + 1, s.pc + 2, p, q]) ∧
    (∃ t, exec (.jmpInd p) s = .next t ∧ t.registers = { s.registers with pc := t.pc } ∧ ControlKept s t ∧ MemoryKept s t)

/-- JSR completes, pushes the address of its own third byte, high byte first, and goes to the word of its low operand byte and
of the byte that then stands at the third byte; where that byte is the block's own and not on the stack cells just pushed
to, it is the operand. RTS completes, pulls two bytes and goes to the word they make plus 1, changing no memory. RTS run
right after JSR comes back to the instruction after the JSR with the register file as it was, whatever S is.
[44_control_stack_flags.md R302, 44_control_stack_flags.md R303, 44_control_stack_flags.md R327, 10_state.md R23,
92_eei_decisions.md D26] -/
def Obligations.CallAndReturn : Prop :=
  ∀ (s : State) (a : Word),
    (∃ t, exec (.jsr a) s = .next t ∧
      t.registers = { s.registers with sp := s.sp - 2, pc := t.pc } ∧ lo t.pc = lo a ∧ ControlKept s t ∧
      MemoryAfter s t [(stackAddr s.sp, hi (s.pc + 2)), (stackAddr (s.sp - 1), lo (s.pc + 2))] ∧
      (∀ h, t.peek (s.pc + 2) = some h → hi t.pc = h) ∧
      t.accessList =
        reads [s.pc, s.pc + 1, stackAddr s.sp] ++ [(.write, stackAddr s.sp), (.write, stackAddr (s.sp - 1))] ++
          reads [s.pc + 2]) ∧
    (RunsTo .rts s
        { s.registers with sp := s.sp + 2, pc := wordAt s (stackAddr (s.sp + 1)) (stackAddr (s.sp + 2)) + 1 } ∧
      ∃ t, exec .rts s = .next t ∧
        t.accessList =
          reads [s.pc, s.pc + 1, stackAddr s.sp, stackAddr (s.sp + 1), stackAddr (s.sp + 2),
            wordAt s (stackAddr (s.sp + 1)) (stackAddr (s.sp + 2))]) ∧
    (∃ t u, exec (.jsr a) s = .next t ∧ exec .rts t = .next u ∧
      u.registers = { s.registers with pc := s.pc + 3 } ∧ MemoryKept t u)

/-- BRK completes in 7 accesses: it pushes the high and the low byte of the BRK address + 2 and the status byte with bits 5 and
4 set and the old I, S going down by 3; then I is 1 and PC is the word at 0xFFFE. No other register or flag changes, no line
and no latch, and no memory but the three stack bytes. (The padding byte is the spec's decision D23, the fixed vector its
D9.) [44_control_stack_flags.md R305, 60_exceptions.md R410, 60_exceptions.md R408, 92_eei_decisions.md D23,
92_eei_decisions.md D9] -/
def Obligations.Break : Prop :=
  ∀ (s : State),
    ∃ t, exec .brk s = .next t ∧
      t.registers =
        { s.registers with
          sp := s.sp - 3, pc := vectorWord s 0xFFFE#16, flags := { s.flags with i := true } } ∧
      ControlKept s t ∧
      MemoryAfter s t
        [(stackAddr s.sp, hi (s.pc + 2)), (stackAddr (s.sp - 1), lo (s.pc + 2)),
          (stackAddr (s.sp - 2), s.p ||| 0x30#8)] ∧
      t.accessList =
        reads [s.pc, s.pc + 1] ++
          [(.write, stackAddr s.sp), (.write, stackAddr (s.sp - 1)), (.write, stackAddr (s.sp - 2))] ++
          reads [0xFFFE#16, 0xFFFF#16]

/-- RTI completes: the flags are bits 7, 6, 3, 2, 1 and 0 of the byte above S, PC is the word of the two bytes above it, low
byte first and with no increment, and S goes up by 3. Nothing else changes, and no memory; its six accesses are reads. (That
bits 5 and 4 are discarded is in part the spec's decision D6.) [44_control_stack_flags.md R304, 60_exceptions.md R411,
92_eei_decisions.md D6] -/
def Obligations.ReturnFromInterrupt : Prop :=
  ∀ (s : State) (v : Byte), s.peek (stackAddr (s.sp + 1)) = some v →
    RunsTo .rti s
      { s.registers with
        sp := s.sp + 3, pc := wordAt s (stackAddr (s.sp + 2)) (stackAddr (s.sp + 3))
        flags :=
          { n := v.getLsbD 7, v := v.getLsbD 6, d := v.getLsbD 3, i := v.getLsbD 2, z := v.getLsbD 1
            c := v.getLsbD 0 } } ∧
    ∃ t, exec .rti s = .next t ∧
      t.accessList =
        reads [s.pc, s.pc + 1, stackAddr s.sp, stackAddr (s.sp + 1), stackAddr (s.sp + 2), stackAddr (s.sp + 3)]

/-- An RTI run right after the interrupt sequence of any of the three kinds restores the register file, flags, S and PC
included, exactly as they were at entry; run right after BRK it restores all but PC, which is the BRK address + 2. The RTI
changes no memory. (That BRK pushes its address + 2 is the spec's decision D23, and that RESET pushes what RTI pulls its D5;
log 23.) [60_exceptions.md R407, 60_exceptions.md R410, 60_exceptions.md R411, 60_exceptions.md R413,
44_control_stack_flags.md R304, 44_control_stack_flags.md R305, 44_control_stack_flags.md R327, 92_eei_decisions.md D5,
92_eei_decisions.md D23] -/
def Obligations.ReturnUndoesEntry : Prop :=
  ∀ (s : State),
    (∀ k, ∃ u, exec .rti (s.interruptSequence k) = .next u ∧ u.registers = s.registers ∧
      MemoryKept (s.interruptSequence k) u) ∧
    (∃ t u, exec .brk s = .next t ∧ exec .rti t = .next u ∧ u.registers = { s.registers with pc := s.pc + 2 } ∧
      MemoryKept t u)

/-- Every branch completes. BPL, BMI, BVC, BVS, BCC, BCS, BNE, BEQ are taken on N = 0, N = 1, V = 0, V = 1, C = 0, C = 1, Z = 0,
Z = 1. Not taken, PC is the branch address + 2 after two reads; taken, PC is that address plus the signed offset, modulo
65536, after a third read at the next instruction and, on another page, a fourth with the uncorrected high byte. No other
register, no flag and no memory changes. [44_control_stack_flags.md R306, 44_control_stack_flags.md R307,
44_control_stack_flags.md R308, 44_control_stack_flags.md R309, 44_control_stack_flags.md R310, 44_control_stack_flags.md
R311, 44_control_stack_flags.md R312, 44_control_stack_flags.md R313, 44_control_stack_flags.md R314, 41_addressing_modes.md
R174, 30_encoding.md R113] -/
def Obligations.Branches : Prop :=
  ∀ (i : Instr) (s : State) (d : Byte), i.operand = .rel d →
    let next := s.pc + 2
    let target := BitVec.ofInt 16 ((s.pc.toNat : Int) + 2 + d.toInt)
    let taken : Bool :=
      match i.mnemonic with
      | .bpl => s.flags.n == false
      | .bmi => s.flags.n == true
      | .bvc => s.flags.v == false
      | .bvs => s.flags.v == true
      | .bcc => s.flags.c == false
      | .bcs => s.flags.c == true
      | .bne => s.flags.z == false
      | .beq => s.flags.z == true
      | _ => false
    RunsTo i s { s.registers with pc := if taken then target else next } ∧
    ∃ t, exec i s = .next t ∧
      t.accessList =
        reads ([s.pc, s.pc + 1] ++
          (if taken then if hi target = hi next then [next] else [next, w16 (hi next) (lo target)] else []))

/-- PHA and PHP complete and store A, or the status byte with bits 5 and 4 set, at 0x0100 | S, S then going down by 1 modulo
256; PLA and PLP complete and take the byte at 0x0100 | (S + 1), S going up by 1, into A with N and Z from it, or into the
six flags. Everything else but PC is unchanged. (The bits 5 and 4 of PHP and PLP are the spec's decision D6.)
[44_control_stack_flags.md R315, 44_control_stack_flags.md R316, 44_control_stack_flags.md R317, 44_control_stack_flags.md
R318, 10_state.md R23, 92_eei_decisions.md D6] -/
def Obligations.StackInstructions : Prop :=
  ∀ (s : State) (v : Byte),
    (StoresTo .pha s { s.registers with sp := s.sp - 1, pc := s.pc + 1 } [(stackAddr s.sp, s.a)] ∧
      StoresTo .php s { s.registers with sp := s.sp - 1, pc := s.pc + 1 } [(stackAddr s.sp, s.p ||| 0x30#8)] ∧
      ∀ i ∈ [Instr.pha, .php],
        ∃ t, exec i s = .next t ∧ t.accessList = reads [s.pc, s.pc + 1] ++ [(.write, stackAddr s.sp)]) ∧
    (s.peek (stackAddr (s.sp + 1)) = some v →
      RunsTo .pla s { s.registers with a := v, sp := s.sp + 1, pc := s.pc + 1, flags := withNZ s.flags v } ∧
      RunsTo .plp s
        { s.registers with
          sp := s.sp + 1, pc := s.pc + 1
          flags :=
            { n := v.getLsbD 7, v := v.getLsbD 6, d := v.getLsbD 3, i := v.getLsbD 2, z := v.getLsbD 1
              c := v.getLsbD 0 } } ∧
      ∀ i ∈ [Instr.pla, .plp],
        ∃ t, exec i s = .next t ∧ t.accessList = reads [s.pc, s.pc + 1, stackAddr s.sp, stackAddr (s.sp + 1)])

/-- CLC (18), SEC (38), CLI (58), SEI (78), CLV (B8), CLD (D8) and SED (F8) complete and set or clear their one flag; no other
flag, no register but PC, which goes up by 1, no line and no memory changes. (What R321 and R322 say of the arbiter at the
next FETCH is in InterruptDisableFlag, what R324 and R325 say of arithmetic in DecimalFlagHasNoEffect.)
[44_control_stack_flags.md R319, 44_control_stack_flags.md R320, 44_control_stack_flags.md R321, 44_control_stack_flags.md
R322, 44_control_stack_flags.md R323, 44_control_stack_flags.md R324, 44_control_stack_flags.md R325] -/
def Obligations.FlagInstructions : Prop :=
  ∀ (s : State),
    let sets (i : Instr) (op : Byte) (f : Flags) : Prop :=
      encode i = [op] ∧ RunsTo i s { s.registers with pc := s.pc + 1, flags := f }
    sets .clc 0x18#8 { s.flags with c := false } ∧ sets .sec 0x38#8 { s.flags with c := true } ∧
    sets .cli 0x58#8 { s.flags with i := false } ∧ sets .sei 0x78#8 { s.flags with i := true } ∧
    sets .clv 0xB8#8 { s.flags with v := false } ∧ sets .cld 0xD8#8 { s.flags with d := false } ∧
    sets .sed 0xF8#8 { s.flags with d := true }

/-- Every encoding of NOP completes and moves PC past the instruction; no register, no flag, no line and no byte of memory
changes. (Their reads are in the statement of the Read group's accesses.) [44_control_stack_flags.md R326,
45_undocumented.md R371, 30_encoding.md R121] -/
def Obligations.Nops : Prop :=
  ∀ (i : Instr) (s : State), i.mnemonic = .nop → RunsTo i s { s.registers with pc := nextPc i s }

/-- Each of the twelve JAM opcodes completes in one access, the opcode fetch: the block is Halted(Jam opcode), PC is the JAM
address + 1 (the spec's decision D16), and no other register, flag, line or memory changes. No other instruction, and no
interrupt sequence, changes the halt state. (That JAM leaves the instruction-cycle state as it was at the boundary is this
model's choice, which the spec leaves unspecified, U9: log 31.) [45_undocumented.md R372, 60_exceptions.md R422,
60_exceptions.md R420, 40_instruction_cycle.md R146, 92_eei_decisions.md D16] -/
def Obligations.JamHalts : Prop :=
  (∀ (s : State) (k : Fin 12),
      ∃ t, exec (.jam k) s = .next t ∧ t.registers = { s.registers with pc := s.pc + 1 } ∧ LinesKept s t ∧
        MemoryKept s t ∧ t.halted = .jam (Instr.opcode (.jam k)) ∧ t.cycles = s.cycles + 1 ∧ t.accessList = reads [s.pc]) ∧
    (∀ (i : Instr) (s t : State), exec i s = .next t → t.halted ≠ s.halted → i.mnemonic = .jam) ∧
    (∀ (s : State) (k : IntKind), (s.interruptSequence k).halted = s.halted)

/-- In Halted(Jam op) and in Halted(UnknownOpcode op), step and tick answer the distinguished failure, which carries no next
state; an event of the environment leaves the halt state and the cycle counter as they are, so that the same holds after it.
(Absorption and requests while halted are the spec's decisions D16 and D27.) [60_exceptions.md R420, 10_state.md R43,
92_eei_decisions.md D16, 92_eei_decisions.md D27] -/
def Obligations.HaltedIsAbsorbing : Prop :=
  ∀ (s : State) (op : Byte) (e : EnvEvent),
    (s.halted = .jam op →
      step s = .fault (.jammed op) ∧ tick s = .fault (.jammed op) ∧ step (s.envEvent e) = .fault (.jammed op)) ∧
    (s.halted = .unknownOpcode op →
      step s = .fault (.unknownOpcode op) ∧ tick s = .fault (.unknownOpcode op) ∧
        step (s.envEvent e) = .fault (.unknownOpcode op)) ∧
    (s.envEvent e).halted = s.halted ∧ (s.envEvent e).cycles = s.cycles

/-- At a fetch NMI wins over everything and its latch is cleared; else IRQ wins when its line is 1 and I = 0, the line
unchanged; else RESET wins and its latch is cleared; else the fetch is an ordinary one. The winner's sequence takes 7
cycles, the losers stay pending through it, an IRQ that lost to NMI is masked at the next fetch because the sequence set I,
and a RESET that lost is taken at the next fetch if no NMI has arrived. [R404] -/
def Obligations.Arbiter : Prop :=
  ∀ (s : State), AtFetch s →
    (s.nmiPending = true →
      ∃ t, step s = .next t ∧ t = State.interruptSequence { s with nmiPending := false } .nmi ∧ t.nmiPending = false ∧
        t.irqLine = s.irqLine ∧ t.resetPending = s.resetPending ∧ t.cycles = s.cycles + 7 ∧ AtFetch t ∧
        (s.resetPending = true → step t = .next (State.interruptSequence { t with resetPending := false } .reset)) ∧
        (s.resetPending = false → t.arbitrate = none)) ∧
    (s.nmiPending = false ∧ s.irqLine = true ∧ s.flags.i = false →
      ∃ t, step s = .next t ∧ t = s.interruptSequence .irq ∧ t.irqLine = true ∧ t.nmiPending = false ∧
        t.resetPending = s.resetPending ∧ t.cycles = s.cycles + 7 ∧ AtFetch t ∧
        (s.resetPending = true → step t = .next (State.interruptSequence { t with resetPending := false } .reset))) ∧
    (s.nmiPending = false ∧ (s.irqLine = false ∨ s.flags.i = true) ∧ s.resetPending = true →
      ∃ t, step s = .next t ∧ t = State.interruptSequence { s with resetPending := false } .reset ∧
        t.resetPending = false ∧ t.irqLine = s.irqLine ∧ t.cycles = s.cycles + 7) ∧
    (LinesQuiet s → s.arbitrate = none ∧ step s = runInstruction s)

/-- The sequence of NMI, IRQ or RESET reads PC twice without moving it, pushes the high and the low byte of PC and the status
byte with bit 5 set and bit 4 clear and the old I, sets I, and loads PC from 0xFFFA, 0xFFFE or 0xFFFC, low byte first; S
goes down by 3. A, X, Y, the other flags, the lines and the halt state are unchanged, and so is all memory but the three
stack bytes. (The dummy reads are the spec's decision D7; that RESET writes the stack is its D5.) [60_exceptions.md R407,
60_exceptions.md R408, 60_exceptions.md R409, 92_eei_decisions.md D5, 92_eei_decisions.md D7] -/
def Obligations.InterruptSequence : Prop :=
  ∀ (s : State) (k : IntKind),
    let vec : Word := match k with
      | .nmi => 0xFFFA#16
      | .irq => 0xFFFE#16
      | .reset => 0xFFFC#16
    let t := s.interruptSequence k
    t.registers =
        { s.registers with sp := s.sp - 3, pc := vectorWord s vec, flags := { s.flags with i := true } } ∧
      ControlKept s t ∧ t.cycles = s.cycles + 7 ∧
      MemoryAfter s t
        [(stackAddr s.sp, hi s.pc), (stackAddr (s.sp - 1), lo s.pc),
          (stackAddr (s.sp - 2), (s.p ||| 0x20#8) &&& 0xEF#8)] ∧
      t.accessList =
        reads [s.pc, s.pc] ++
          [(.write, stackAddr s.sp), (.write, stackAddr (s.sp - 1)), (.write, stackAddr (s.sp - 2))] ++
          reads [vec, vec + 1]

/-- A RESET request taken at a fetch leaves PC at the word at 0xFFFC, I = 1, S down by 3, the three stack cells holding the old
PC and status, its latch cleared, and 7 more cycles; A, X, Y, the flags C, Z, D, V, N, the NMI latch, the IRQ line, the
cartridge and all other memory are as before. (Derived by the spec from its rule R441.) [70_reset_and_hazards.md R442,
70_reset_and_hazards.md R443, 70_reset_and_hazards.md R445, 70_reset_and_hazards.md R441, 92_eei_decisions.md D5] -/
def Obligations.ResetTaken : Prop :=
  ∀ (s : State), AtFetch s → s.nmiPending = false → (s.irqLine = false ∨ s.flags.i = true) → s.resetPending = true →
    ∃ t, step s = .next t ∧
      t.registers =
        { s.registers with sp := s.sp - 3, pc := vectorWord s 0xFFFC#16, flags := { s.flags with i := true } } ∧
      t.resetPending = false ∧ t.nmiPending = false ∧ t.irqLine = s.irqLine ∧ AtFetch t ∧ t.cycles = s.cycles + 7 ∧
      t.cart = s.cart ∧
      MemoryAfter s t
        [(stackAddr s.sp, hi s.pc), (stackAddr (s.sp - 1), lo s.pc), (stackAddr (s.sp - 2), packP s.flags false)]

/-- For every power-on state and every cartridge, with irq_line 0, the first step leaves A, X, Y and the flags but I as they
were at power-on, I = 1, S down by 3, PC at the RESET vector of the cartridge, cycles = 7, the latches clear and the machine
running at a boundary; and from the recommended power-on state and the blank cartridge it leaves State.reset. (That irq_line
is 0 at power-on is this model's choice, log 1: R48 leaves the line to the environment, and by R440 an IRQ asserted with
PowerOn.I = 0 is served before RESET. That RESET is pending and NMI is not is the spec's decision D4. The recommended state
and the blank cartridge are this model's choice, log 1, 2 and 4.) [10_state.md R48, 70_reset_and_hazards.md R440,
92_eei_decisions.md D4, 92_eei_decisions.md D17] -/
def Obligations.PowerOnThenReset : Prop :=
  (∀ (p : PowerOn) (c : Cartridge),
      ∃ t, step (State.powerOn p c) = .next t ∧
        t.registers =
          { a := p.a, x := p.x, y := p.y, sp := p.sp - 3
            pc := w16 (c.prgRom.read (0xFFFD % c.prgRomSize)) (c.prgRom.read (0xFFFC % c.prgRomSize))
            flags := { n := p.n, v := p.v, d := p.d, i := true, z := p.z, c := p.c } } ∧
        t.cycles = 7 ∧ t.nmiPending = false ∧ t.irqLine = false ∧ t.resetPending = false ∧ AtFetch t ∧ t.cart = c) ∧
    step (State.powerOn PowerOn.recommended Cartridge.blank) = .next State.reset

/-- With NMI and RESET quiet and the line at 1, the IRQ sequence is taken at a fetch exactly when I = 0; NMI and RESET are taken
whatever I is. BRK and every interrupt sequence leave I = 1, and the status byte they pushed has the old I in bit 2. [R30] -/
def Obligations.InterruptDisableFlag : Prop :=
  ∀ (s : State), AtFetch s →
    (s.nmiPending = false ∧ s.resetPending = false ∧ s.irqLine = true →
      (s.flags.i = false → step s = .next (s.interruptSequence .irq)) ∧
      (s.flags.i = true → s.arbitrate = none ∧ step s = runInstruction s)) ∧
    (∀ b, s.nmiPending = true →
      ∃ t, step { s with flags := { s.flags with i := b } } = .next t ∧ t.pc = vectorWord s 0xFFFA#16) ∧
    (∀ b, s.nmiPending = false ∧ s.irqLine = false ∧ s.resetPending = true →
      ∃ t, step { s with flags := { s.flags with i := b } } = .next t ∧ t.pc = vectorWord s 0xFFFC#16) ∧
    (∀ t, exec .brk s = .next t ∨ (∃ k, t = s.interruptSequence k) →
      t.flags.i = true ∧ ∃ v, t.peek (stackAddr (t.sp + 1)) = some v ∧ v.getLsbD 2 = s.flags.i)

/-- The packed status byte is N V 1 b D I Z C, so bit 5 is 1 in every byte that is packed, pushed by PHP, BRK or an interrupt
sequence, or shown in the trace view; packing and unpacking give the flags back; and PLP and RTI run on two memories whose
pulled bytes differ only in bits 5 and 4 leave the same flags, the live status byte being the pulled one with bit 5 set and
bit 4 clear. (That PHP pushes a status byte of this form, and that PLP and RTI discard bits 5 and 4, is in part the spec's
decision D6.) [00_scope.md R10, 10_state.md R26, 10_state.md R27, 10_state.md R28, 92_eei_decisions.md D6] -/
def Obligations.StatusByte : Prop :=
  (∀ (f : Flags) (b : Bool),
      (packP f b).toNat =
        128 * f.n.toNat + 64 * f.v.toNat + 32 + 16 * b.toNat + 8 * f.d.toNat + 4 * f.i.toNat + 2 * f.z.toNat + f.c.toNat ∧
      (packP f b).getLsbD 5 = true ∧ unpackP (packP f b) = f) ∧
    (∀ (s : State), s.p.getLsbD 5 = true ∧ s.traceView.p.getLsbD 5 = true ∧ s.p.getLsbD 4 = false) ∧
    (∀ (s t : State) (i : Instr),
      (i = .php ∨ i = .brk) ∧ exec i s = .next t ∨ (∃ k, t = s.interruptSequence k) →
      ∃ v, t.peek (stackAddr (t.sp + 1)) = some v ∧ v.getLsbD 5 = true) ∧
    (∀ (s : State) (v : Byte), s.peek (stackAddr (s.sp + 1)) = some v →
      ∀ i ∈ [Instr.plp, .rti], ∃ t, exec i s = .next t ∧ t.p = (v ||| 0x20#8) &&& 0xEF#8)

/-- If an instruction leaves A, X, Y or S different, its mnemonic is in the spec's list of that register's writers; if it leaves
PC elsewhere than at the next instruction in sequence, it is JMP, JSR, RTS, RTI, BRK or a branch. (Derived by the spec from
its instruction rules.) [10_state.md R21, 10_state.md R22, 10_state.md R23, 10_state.md R25] -/
def Obligations.RegisterWriters : Prop :=
  ∀ (i : Instr) (s t : State), exec i s = .next t →
    (t.a ≠ s.a → i.mnemonic ∈ [.lda, .lax, .lxa, .las, .txa, .tya, .pla, .adc, .sbc, .usbc, .and, .ora, .eor, .asl, .lsr,
      .rol, .ror, .slo, .rla, .sre, .rra, .isc, .anc, .alr, .arr, .ane]) ∧
    (t.x ≠ s.x → i.mnemonic ∈ [.ldx, .lax, .lxa, .las, .tax, .tsx, .inx, .dex, .sbx]) ∧
    (t.y ≠ s.y → i.mnemonic ∈ [.ldy, .tay, .iny, .dey]) ∧
    (t.sp ≠ s.sp → i.mnemonic ∈ [.txs, .tas, .las, .pha, .php, .pla, .plp, .jsr, .rts, .rti, .brk]) ∧
    (t.pc ≠ nextPc i s → i.mnemonic ∈ [.jmp, .jsr, .rts, .rti, .brk, .bpl, .bmi, .bvc, .bvs, .bcc, .bcs, .bne, .beq])

/-- If an instruction leaves a flag different, its mnemonic is in that flag's column of the spec's table: C, Z, I, D, V and N
each have theirs. (Derived by the spec from its instruction rules.) [10_state.md R29] -/
def Obligations.FlagWriters : Prop :=
  ∀ (i : Instr) (s t : State), exec i s = .next t →
    (t.flags.c ≠ s.flags.c → i.mnemonic ∈ [.adc, .sbc, .usbc, .cmp, .cpx, .cpy, .asl, .lsr, .rol, .ror, .slo, .rla, .sre,
      .rra, .dcp, .isc, .anc, .alr, .arr, .sbx, .clc, .sec, .plp, .rti]) ∧
    (t.flags.z ≠ s.flags.z ∨ t.flags.n ≠ s.flags.n → i.mnemonic ∈ [.lda, .ldx, .ldy, .lax, .lxa, .las, .tax, .tay, .txa, .tya,
      .tsx, .pla, .adc, .sbc, .usbc, .and, .ora, .eor, .cmp, .cpx, .cpy, .inc, .dec, .inx, .iny, .dex, .dey, .asl, .lsr, .rol,
      .ror, .slo, .rla, .sre, .rra, .dcp, .isc, .anc, .alr, .arr, .ane, .sbx, .bit, .plp, .rti]) ∧
    (t.flags.i ≠ s.flags.i → i.mnemonic ∈ [.sei, .cli, .plp, .rti, .brk]) ∧
    (t.flags.d ≠ s.flags.d → i.mnemonic ∈ [.sed, .cld, .plp, .rti]) ∧
    (t.flags.v ≠ s.flags.v → i.mnemonic ∈ [.adc, .sbc, .usbc, .rra, .isc, .arr, .bit, .clv, .plp, .rti])

/-- No instruction changes a latch, the IRQ line or the instruction-cycle state. A step from a boundary never changes the IRQ
line, never sets a latch, and clears the NMI or the RESET latch only by taking that interrupt. A request sets its latch, and
a second request while it is set changes nothing. (That the latch is cleared at the fetch, and that requests are absorbed,
are the spec's decisions D8 and D24. That the instruction-cycle state stands at its reset value when an instruction ends,
and so is the same before and after it, is this model's log 9, and for JAM, where the spec leaves it unspecified, U9, its
log 31.) [60_exceptions.md R406, 60_exceptions.md R401, 60_exceptions.md R403, 10_state.md R40, 10_state.md R41, 10_state.md
R42, 92_eei_decisions.md D8, 92_eei_decisions.md D24] -/
def Obligations.LinesAreConsumedOnlyAtFetch : Prop :=
  (∀ (i : Instr) (s t : State), exec i s = .next t → LinesKept s t) ∧
    (∀ (s t : State), AtFetch s → step s = .next t →
      t.irqLine = s.irqLine ∧
      (t.nmiPending = s.nmiPending ∨
        (s.nmiPending = true ∧ t.nmiPending = false ∧ t.pc = vectorWord s 0xFFFA#16 ∧ t.cycles = s.cycles + 7)) ∧
      (t.resetPending = s.resetPending ∨
        (s.resetPending = true ∧ t.resetPending = false ∧ t.pc = vectorWord s 0xFFFC#16 ∧ t.cycles = s.cycles + 7))) ∧
    (∀ (s : State), s.requestNmi.nmiPending = true ∧ s.requestNmi.requestNmi = s.requestNmi ∧
      s.requestReset.resetPending = true ∧ s.requestReset.requestReset = s.requestReset ∧
      s.requestNmi.registers = s.registers ∧ s.requestReset.registers = s.registers)

/-- A step from an instruction boundary, an instruction or an interrupt sequence, leaves program ROM, the character memory, the
sizes and the header fields of the cartridge as they were: only cartridge RAM may change. [20_memory.md R73, 20_memory.md
R60, 10_state.md R44, 70_reset_and_hazards.md R459] -/
def Obligations.RomAndCharacterMemoryAreNeverWritten : Prop :=
  ∀ (s t : State), AtFetch s → step s = .next t → t.cart = { s.cart with prgRam := t.cart.prgRam }

/-- For every instruction but SED, CLD, PLP, RTI, PHP and BRK, running it with another D flag gives the same next state, access
for access, with that D flag. (That there is no decimal arithmetic is the spec's decision D2.) [10_state.md R31,
43_arithmetic_logic.md R249, 92_eei_decisions.md D2] -/
def Obligations.DecimalFlagHasNoEffect : Prop :=
  ∀ (i : Instr) (s t : State) (b : Bool), i.mnemonic ∉ [.sed, .cld, .plp, .rti, .php, .brk] → exec i s = .next t →
    exec i (withD s b) = .next (withD t b)

/-- If a state satisfies the invariant (the RAM array and each memory of the cartridge in canonical form, listing only cells
that exist, and the instruction-cycle state reset) and step answers a next state, that state satisfies it. (That the
instruction-cycle state is reset when an instruction ends, where R32 has the next FETCH reset it, is this model's choice,
log 9; that it is so in a block that JAM has halted, where the spec leaves it unspecified, U9, is its log 31.) [20_memory.md
R63, 20_memory.md R73, 10_state.md R32, 10_state.md R44] -/
def Obligations.StepKeepsInvariant : Prop :=
  ∀ (s t : State), s.Inv → step s = .next t → t.Inv

/-- State.reset satisfies the invariant that every step keeps. (Its register values and its cartridge are this model's choice,
log 1 and 4.) [10_state.md R48, 70_reset_and_hazards.md R442] -/
def Obligations.ResetHasInvariant : Prop :=
  State.reset.Inv

/-- From every state of a running machine at an instruction boundary, step answers a next state t, and the machine that makes
one bus access at a time reaches exactly t, every field of it, after t.cycles - s.cycles ticks. (How the ticks divide
between DECODE and EXECUTE the spec leaves open: log 9. The instruction-cycle state of a block that JAM has halted is
unspecified, U9, and the model's choice of it is log 31.) [40_instruction_cycle.md R140, 40_instruction_cycle.md R141,
40_instruction_cycle.md R148, 40_instruction_cycle.md R149, 40_instruction_cycle.md R150] -/
def Obligations.StepIsTicks : Prop :=
  ∀ (s : State), s.halted = .running → s.ic = ICycle.boundary →
    ∃ t, step s = .next t ∧ s.cycles ≤ t.cycles ∧ ticks (t.cycles - s.cycles) s = .next t

/-- Power-on answers a state exactly when the mapper id is that of the fixed-bank variant, the program ROM size is a power of
two, the cartridge RAM size is 0 or a power of two up to 0x2000 and the character size is 0 or a power of two; otherwise it
answers a configuration error. The state's cartridge has those sizes and holds the image's bytes. (That id 0 is the fixed-
bank variant, that a size 0 is accepted for the character memory, and that a cartridge RAM above 0x2000 is refused are this
model's log 15, 13 and 14.) [60_exceptions.md R421, 20_memory.md R71, 20_memory.md R75, 20_memory.md R76, 00_scope.md R7,
00_scope.md R8] -/
def Obligations.ConfigurationIsChecked : Prop :=
  ∀ (p : PowerOn) (c : CartridgeImage),
    ((∃ s, powerOn p c = .ok s) ↔
      c.mapperId = 0 ∧ (∃ k, c.prgRom.length = 2 ^ k) ∧ (c.prgRamSize = 0 ∨ ∃ k, c.prgRamSize = 2 ^ k ∧ c.prgRamSize ≤ 0x2000) ∧
        (c.chr.length = 0 ∨ ∃ k, c.chr.length = 2 ^ k)) ∧
    ((∃ e, powerOn p c = .error e) ∨ ∃ s, powerOn p c = .ok s) ∧
    (∀ s, powerOn p c = .ok s →
      s.cart.prgRomSize = c.prgRom.length ∧ s.cart.prgRamSize = c.prgRamSize ∧ s.cart.chrSize = c.chr.length ∧
        (∀ k, s.cart.prgRom.read k = c.prgRom.getD k 0x00#8) ∧ (∀ k, s.cart.chr.read k = c.chr.getD k 0x00#8) ∧
        s.cycles = 0 ∧ s.resetPending = true ∧ s.nmiPending = false ∧ s.halted = .running)

/-- A read or write of a PPU cell, or of 0x4014, adds one event of that cell and that byte to what the video collaborator sees
and nothing to what the audio and input one sees; a read or write of any other address in 0x4000 to 0x4017 the other way
round; an access to RAM, to 0x4018 to 0x401F or to cartridge space is delivered to neither. (That peripheral accesses are
reported to the environment is the spec's decision D21; that deliveries are read off the access sequence is this model's log
19.) [20_memory.md R65, 20_memory.md R67, 20_memory.md R68, 92_eei_decisions.md D21] -/
def Obligations.PeripheralDelivery : Prop :=
  ∀ (s : State) (a : Word) (v : Byte),
    let both (toVideo toAudioInput : BusKind → Byte → List CellEvent) : Prop :=
      (s.onWrite a v).deliveredTo .video = s.deliveredTo .video ++ toVideo .write v ∧
      (s.onWrite a v).deliveredTo .audioInput = s.deliveredTo .audioInput ++ toAudioInput .write v ∧
      (s.onRead a).deliveredTo .video = s.deliveredTo .video ++ toVideo .read (s.readValue a) ∧
      (s.onRead a).deliveredTo .audioInput = s.deliveredTo .audioInput ++ toAudioInput .read (s.readValue a)
    (0x2000 ≤ a.toNat ∧ a.toNat ≤ 0x3FFF →
      both (fun k b => [⟨k, .ppu ((a.toNat - 0x2000) % 8), b⟩]) (fun _ _ => [])) ∧
    (a.toNat = 0x4014 → both (fun k b => [⟨k, .apuIo 0x14, b⟩]) (fun _ _ => [])) ∧
    (0x4000 ≤ a.toNat ∧ a.toNat ≤ 0x4017 ∧ a.toNat ≠ 0x4014 →
      both (fun _ _ => []) (fun k b => [⟨k, .apuIo (a.toNat - 0x4000), b⟩])) ∧
    (a.toNat ≤ 0x1FFF ∨ 0x4018 ≤ a.toNat → both (fun _ _ => []) (fun _ _ => []))

end Statements
end

