-- ==== Sys2Proof/Laws/Memory.lean ====
section
/-! SUPPORT. The laws of a byte store: a read after a write, the canonical form and the range of indices under a write. -/

namespace Sys2Proof

@[simp] theorem Memory.read_nil (k : Nat) : Memory.read [] k = Memory.unlisted := rfl

theorem Memory.read_erase_same (m : Memory) (k : Nat) : (m.erase k).read k = Memory.unlisted := by
  induction m with
  | nil => rfl
  | cons c m ih =>
    obtain ⟨j, v⟩ := c
    by_cases h : j = k
    · simpa [Memory.erase, h] using ih
    · simpa [Memory.erase, Memory.read, h] using ih

theorem Memory.read_erase_other (m : Memory) {k j : Nat} (h : j ≠ k) : (m.erase k).read j = m.read j := by
  induction m with
  | nil => rfl
  | cons c m ih =>
    obtain ⟨i, v⟩ := c
    by_cases hi : i = k
    · have : i ≠ j := fun e => h (e ▸ hi)
      simpa [Memory.erase, Memory.read, hi, h.symm] using ih
    · by_cases hj : i = j
      · subst hj; simp [Memory.erase, Memory.read, hi]
      · simpa [Memory.erase, Memory.read, hi, hj] using ih

/-- What an erased list holds never has the erased index. -/
theorem Memory.erase_within (m : Memory) (k : Nat) : (m.erase k).within (fun j => j != k) = true := by
  induction m with
  | nil => rfl
  | cons c m ih =>
    obtain ⟨j, v⟩ := c
    by_cases h : j = k
    · simpa [Memory.erase, h] using ih
    · simpa [Memory.erase, Memory.within, h] using ih

theorem Memory.read_insert_same (m : Memory) (k : Nat) (v : Byte)
    (h : m.within (fun j => j != k) = true) : (m.insert k v).read k = v := by
  induction m with
  | nil => simp [Memory.insert, Memory.read]
  | cons c m ih =>
    obtain ⟨j, w⟩ := c
    simp only [Memory.within, List.all_cons, Bool.and_eq_true, bne_iff_ne, ne_eq] at h
    by_cases hk : k < j
    · simp [Memory.insert, Memory.read, hk]
    · simpa [Memory.insert, Memory.read, hk, h.1] using ih h.2

theorem Memory.read_insert_other (m : Memory) {k j : Nat} (v : Byte) (h : j ≠ k) :
    (m.insert k v).read j = m.read j := by
  induction m with
  | nil => simp [Memory.insert, Memory.read, h.symm]
  | cons c m ih =>
    obtain ⟨i, w⟩ := c
    by_cases hk : k < i
    · simp [Memory.insert, Memory.read, hk, h.symm]
    · by_cases hj : i = j
      · subst hj; simp [Memory.insert, Memory.read, hk]
      · simpa [Memory.insert, Memory.read, hk, hj] using ih

/-- A read of the index just written gives the byte written. -/
@[simp] theorem Memory.read_write_same (m : Memory) (k : Nat) (v : Byte) : (m.write k v).read k = v := by
  unfold Memory.write
  split
  · rename_i h
    rw [h, Memory.read_erase_same]
  · exact Memory.read_insert_same _ _ _ (Memory.erase_within m k)

/-- A write leaves every other index alone. -/
theorem Memory.read_write_other (m : Memory) {k j : Nat} (v : Byte) (h : j ≠ k) : (m.write k v).read j = m.read j := by
  unfold Memory.write
  split
  · exact Memory.read_erase_other m h
  · rw [Memory.read_insert_other _ _ h, Memory.read_erase_other m h]

/-- Weakening the lower bound of a canonical list. -/
theorem Memory.wfAbove_mono (m : Memory) {b : Nat} {b' : Option Nat} (hb : ∀ c, b' = some c → c ≤ b)
    (h : Memory.wfAbove (some b) m = true) : Memory.wfAbove b' m = true := by
  cases m with
  | nil => cases b' <;> rfl
  | cons c m =>
    obtain ⟨j, v⟩ := c
    simp only [Memory.wfAbove, Bool.and_eq_true, decide_eq_true_eq] at h
    cases b' with
    | none => simp [Memory.wfAbove, h.1.2, h.2]
    | some d =>
      have := hb d rfl
      simp only [Memory.wfAbove, Bool.and_eq_true, decide_eq_true_eq]
      exact ⟨⟨by omega, h.1.2⟩, h.2⟩

theorem Memory.wfAbove_erase (m : Memory) (k : Nat) (b : Option Nat) (h : Memory.wfAbove b m = true) :
    Memory.wfAbove b (m.erase k) = true := by
  induction m generalizing b with
  | nil => exact h
  | cons c m ih =>
    obtain ⟨j, v⟩ := c
    have hm : Memory.wfAbove (some j) m = true := by
      cases b <;> simp only [Memory.wfAbove, Bool.and_eq_true] at h <;> exact h.2
    by_cases hj : j = k
    · have hb : Memory.wfAbove b m = true := by
        cases b with
        | none => exact Memory.wfAbove_mono m (by simp) hm
        | some d =>
          simp only [Memory.wfAbove, Bool.and_eq_true, decide_eq_true_eq] at h
          exact Memory.wfAbove_mono m (by intro c hc; cases hc; omega) hm
      simpa [Memory.erase, hj] using ih b hb
    · have := ih (some j) hm
      cases b with
      | none =>
        simp only [Memory.wfAbove, Bool.and_eq_true] at h
        simp [Memory.erase, hj, Memory.wfAbove, h.1, this]
      | some d =>
        simp only [Memory.wfAbove, Bool.and_eq_true, decide_eq_true_eq] at h
        simp [Memory.erase, hj, Memory.wfAbove, h.1.1, h.1.2, this]

theorem Memory.wfAbove_insert (m : Memory) (k : Nat) (v : Byte) (b : Option Nat) (hv : v ≠ Memory.unlisted)
    (hb : ∀ c, b = some c → c < k) (hk : m.within (fun j => j != k) = true)
    (h : Memory.wfAbove b m = true) : Memory.wfAbove b (m.insert k v) = true := by
  induction m generalizing b with
  | nil =>
    cases b with
    | none => simp [Memory.insert, Memory.wfAbove, hv]
    | some d => simp [Memory.insert, Memory.wfAbove, hv, hb d rfl]
  | cons c m ih =>
    obtain ⟨j, w⟩ := c
    simp only [Memory.within, List.all_cons, Bool.and_eq_true, bne_iff_ne, ne_eq] at hk
    have hw : w ≠ Memory.unlisted ∧ Memory.wfAbove (some j) m = true := by
      cases b <;> simp only [Memory.wfAbove, Bool.and_eq_true, bne_iff_ne, ne_eq, decide_eq_true_eq] at h
      · exact h
      · exact ⟨h.1.2, h.2⟩
    by_cases hlt : k < j
    · cases b with
      | none => simp [Memory.insert, Memory.wfAbove, hlt, hv, hw.1, hw.2]
      | some d => simp [Memory.insert, Memory.wfAbove, hlt, hv, hw.1, hw.2, hb d rfl]
    · have hjk : j < k := by omega
      have := ih (some j) (by intro c hc; cases hc; exact hjk) hk.2 hw.2
      cases b with
      | none => simp [Memory.insert, Memory.wfAbove, hlt, hw.1, this]
      | some d =>
        simp only [Memory.wfAbove, Bool.and_eq_true, decide_eq_true_eq] at h
        simp [Memory.insert, Memory.wfAbove, hlt, hw.1, this, h.1.1]

/-- Every write keeps the canonical form. -/
theorem Memory.wf_write (m : Memory) (k : Nat) (v : Byte) (h : m.wf = true) : (m.write k v).wf = true := by
  unfold Memory.write
  split
  · exact Memory.wfAbove_erase m k none h
  · rename_i hv
    exact Memory.wfAbove_insert _ _ _ _ hv (by simp) (Memory.erase_within m k) (Memory.wfAbove_erase m k none h)

theorem Memory.within_erase (p : Nat → Bool) (m : Memory) (k : Nat) (h : m.within p = true) :
    (m.erase k).within p = true := by
  induction m with
  | nil => rfl
  | cons c m ih =>
    obtain ⟨j, v⟩ := c
    simp only [Memory.within, List.all_cons, Bool.and_eq_true] at h
    by_cases hj : j = k
    · simpa [Memory.erase, hj] using ih h.2
    · have := ih h.2
      simp only [Memory.within] at this
      simp [Memory.erase, Memory.within, hj, h.1, this]

theorem Memory.within_insert (p : Nat → Bool) (m : Memory) (k : Nat) (v : Byte) (hk : p k = true)
    (h : m.within p = true) : (m.insert k v).within p = true := by
  induction m with
  | nil => simp [Memory.insert, Memory.within, hk]
  | cons c m ih =>
    obtain ⟨j, w⟩ := c
    simp only [Memory.within, List.all_cons, Bool.and_eq_true] at h
    have := ih h.2
    simp only [Memory.within] at this
    by_cases hlt : k < j
    · simp [Memory.insert, Memory.within, hlt, hk, h.1, h.2]
    · simp [Memory.insert, Memory.within, hlt, h.1, this]

/-- A write of an index that satisfies `p` keeps every index within `p`. -/
theorem Memory.within_write (p : Nat → Bool) (m : Memory) (k : Nat) (v : Byte) (hk : p k = true)
    (h : m.within p = true) : (m.write k v).within p = true := by
  unfold Memory.write
  split
  · exact Memory.within_erase p m k h
  · exact Memory.within_insert p _ k v hk (Memory.within_erase p m k h)

theorem Memory.wfAbove_ofBytesFrom (bs : List Byte) (k : Nat) (b : Option Nat) (hb : ∀ c, b = some c → c < k) :
    Memory.wfAbove b (Memory.ofBytesFrom k bs) = true := by
  induction bs generalizing k b with
  | nil => cases b <;> rfl
  | cons v bs ih =>
    unfold Memory.ofBytesFrom
    split
    · exact ih (k + 1) b (fun c hc => Nat.lt_succ_of_lt (hb c hc))
    · rename_i hv
      have := ih (k + 1) (some k) (by intro c hc; cases hc; exact Nat.lt_succ_self _)
      cases b with
      | none => simp [Memory.wfAbove, hv, this]
      | some d => simp [Memory.wfAbove, hv, this, hb d rfl]

/-- The store made of an image is in canonical form. -/
theorem Memory.wf_ofBytes (bs : List Byte) : (Memory.ofBytes bs).wf = true :=
  Memory.wfAbove_ofBytesFrom bs 0 none (by simp)

theorem Memory.read_ofBytesFrom (bs : List Byte) (k j : Nat) :
    (Memory.ofBytesFrom k bs).read j = if k ≤ j then bs.getD (j - k) Memory.unlisted else Memory.unlisted := by
  induction bs generalizing k with
  | nil => simp [Memory.ofBytesFrom]
  | cons v bs ih =>
    unfold Memory.ofBytesFrom
    by_cases hj : k = j
    · subst hj
      split
      · rename_i hv; rw [ih, if_neg (by omega)]; simp [hv]
      · simp [Memory.read]
    · have key : (Memory.ofBytesFrom (k + 1) bs).read j =
          if k ≤ j then (v :: bs).getD (j - k) Memory.unlisted else Memory.unlisted := by
        rw [ih]
        by_cases hlt : k ≤ j
        · have h1 : k + 1 ≤ j := by omega
          have h2 : j - k = (j - (k + 1)) + 1 := by omega
          simp [hlt, h1, h2]
        · have h1 : ¬ k + 1 ≤ j := by omega
          simp [hlt, h1]
      split
      · exact key
      · simpa [Memory.read, hj] using key

/-- The store made of an image holds the image's byte at each offset. -/
theorem Memory.read_ofBytes (bs : List Byte) (j : Nat) :
    (Memory.ofBytes bs).read j = bs.getD j Memory.unlisted := by
  simpa [Memory.ofBytes] using Memory.read_ofBytesFrom bs 0 j

end Sys2Proof
end

