-- ==== Sys2Proof/Laws/State.lean ====
section
/-! SUPPORT. One lemma for each field of State under each named update, true by unfolding, so that no later proof unfolds a
record update. -/

namespace Sys2Proof.Machine

@[simp] theorem State.beginSequence_a (s : State) : s.beginSequence.a = s.a := rfl
@[simp] theorem State.beginSequence_x (s : State) : s.beginSequence.x = s.x := rfl
@[simp] theorem State.beginSequence_y (s : State) : s.beginSequence.y = s.y := rfl
@[simp] theorem State.beginSequence_sp (s : State) : s.beginSequence.sp = s.sp := rfl
@[simp] theorem State.beginSequence_pc (s : State) : s.beginSequence.pc = s.pc := rfl
@[simp] theorem State.beginSequence_flags (s : State) : s.beginSequence.flags = s.flags := rfl
@[simp] theorem State.beginSequence_ic (s : State) : s.beginSequence.ic = s.ic := rfl
@[simp] theorem State.beginSequence_cycles (s : State) : s.beginSequence.cycles = s.cycles := rfl
@[simp] theorem State.beginSequence_nmiPending (s : State) : s.beginSequence.nmiPending = s.nmiPending := rfl
@[simp] theorem State.beginSequence_irqLine (s : State) : s.beginSequence.irqLine = s.irqLine := rfl
@[simp] theorem State.beginSequence_resetPending (s : State) : s.beginSequence.resetPending = s.resetPending := rfl
@[simp] theorem State.beginSequence_halted (s : State) : s.beginSequence.halted = s.halted := rfl
@[simp] theorem State.beginSequence_ram (s : State) : s.beginSequence.ram = s.ram := rfl
@[simp] theorem State.beginSequence_cart (s : State) : s.beginSequence.cart = s.cart := rfl
@[simp] theorem State.beginSequence_periphIn (s : State) : s.beginSequence.periphIn = s.periphIn := rfl
@[simp] theorem State.beginSequence_accesses (s : State) : s.beginSequence.accesses = [] := rfl

@[simp] theorem State.onRead_a (s : State) (a : Word) : (s.onRead a).a = s.a := rfl
@[simp] theorem State.onRead_x (s : State) (a : Word) : (s.onRead a).x = s.x := rfl
@[simp] theorem State.onRead_y (s : State) (a : Word) : (s.onRead a).y = s.y := rfl
@[simp] theorem State.onRead_sp (s : State) (a : Word) : (s.onRead a).sp = s.sp := rfl
@[simp] theorem State.onRead_pc (s : State) (a : Word) : (s.onRead a).pc = s.pc := rfl
@[simp] theorem State.onRead_flags (s : State) (a : Word) : (s.onRead a).flags = s.flags := rfl
@[simp] theorem State.onRead_ic (s : State) (a : Word) : (s.onRead a).ic = s.ic := rfl
@[simp] theorem State.onRead_cycles (s : State) (a : Word) : (s.onRead a).cycles = s.cycles + 1 := rfl
@[simp] theorem State.onRead_nmiPending (s : State) (a : Word) : (s.onRead a).nmiPending = s.nmiPending := rfl
@[simp] theorem State.onRead_irqLine (s : State) (a : Word) : (s.onRead a).irqLine = s.irqLine := rfl
@[simp] theorem State.onRead_resetPending (s : State) (a : Word) : (s.onRead a).resetPending = s.resetPending := rfl
@[simp] theorem State.onRead_halted (s : State) (a : Word) : (s.onRead a).halted = s.halted := rfl
@[simp] theorem State.onRead_ram (s : State) (a : Word) : (s.onRead a).ram = s.ram := rfl
@[simp] theorem State.onRead_cart (s : State) (a : Word) : (s.onRead a).cart = s.cart := rfl
@[simp] theorem State.onRead_periphIn (s : State) (a : Word) : (s.onRead a).periphIn = s.periphAfterRead a := rfl
@[simp] theorem State.onRead_accesses (s : State) (a : Word) :
    (s.onRead a).accesses = s.accesses ++ [⟨.read, a, s.readValue a⟩] := rfl

@[simp] theorem State.onWrite_a (s : State) (a : Word) (v : Byte) : (s.onWrite a v).a = s.a := rfl
@[simp] theorem State.onWrite_x (s : State) (a : Word) (v : Byte) : (s.onWrite a v).x = s.x := rfl
@[simp] theorem State.onWrite_y (s : State) (a : Word) (v : Byte) : (s.onWrite a v).y = s.y := rfl
@[simp] theorem State.onWrite_sp (s : State) (a : Word) (v : Byte) : (s.onWrite a v).sp = s.sp := rfl
@[simp] theorem State.onWrite_pc (s : State) (a : Word) (v : Byte) : (s.onWrite a v).pc = s.pc := rfl
@[simp] theorem State.onWrite_flags (s : State) (a : Word) (v : Byte) : (s.onWrite a v).flags = s.flags := rfl
@[simp] theorem State.onWrite_ic (s : State) (a : Word) (v : Byte) : (s.onWrite a v).ic = s.ic := rfl
@[simp] theorem State.onWrite_cycles (s : State) (a : Word) (v : Byte) : (s.onWrite a v).cycles = s.cycles + 1 := rfl
@[simp] theorem State.onWrite_nmiPending (s : State) (a : Word) (v : Byte) : (s.onWrite a v).nmiPending = s.nmiPending := rfl
@[simp] theorem State.onWrite_irqLine (s : State) (a : Word) (v : Byte) : (s.onWrite a v).irqLine = s.irqLine := rfl
@[simp] theorem State.onWrite_resetPending (s : State) (a : Word) (v : Byte) :
    (s.onWrite a v).resetPending = s.resetPending := rfl
@[simp] theorem State.onWrite_halted (s : State) (a : Word) (v : Byte) : (s.onWrite a v).halted = s.halted := rfl
@[simp] theorem State.onWrite_ram (s : State) (a : Word) (v : Byte) : (s.onWrite a v).ram = s.ramAfterWrite a v := rfl
@[simp] theorem State.onWrite_cart (s : State) (a : Word) (v : Byte) : (s.onWrite a v).cart = s.cartAfterWrite a v := rfl
@[simp] theorem State.onWrite_periphIn (s : State) (a : Word) (v : Byte) : (s.onWrite a v).periphIn = s.periphIn := rfl
@[simp] theorem State.onWrite_accesses (s : State) (a : Word) (v : Byte) :
    (s.onWrite a v).accesses = s.accesses ++ [⟨.write, a, v⟩] := rfl

@[simp] theorem State.onFetch_a (s : State) : s.onFetch.a = s.a := rfl
@[simp] theorem State.onFetch_x (s : State) : s.onFetch.x = s.x := rfl
@[simp] theorem State.onFetch_y (s : State) : s.onFetch.y = s.y := rfl
@[simp] theorem State.onFetch_sp (s : State) : s.onFetch.sp = s.sp := rfl
@[simp] theorem State.onFetch_pc (s : State) : s.onFetch.pc = s.pc + 1#16 := rfl
@[simp] theorem State.onFetch_flags (s : State) : s.onFetch.flags = s.flags := rfl
@[simp] theorem State.onFetch_ic (s : State) : s.onFetch.ic = s.ic := rfl
@[simp] theorem State.onFetch_cycles (s : State) : s.onFetch.cycles = s.cycles + 1 := rfl
@[simp] theorem State.onFetch_nmiPending (s : State) : s.onFetch.nmiPending = s.nmiPending := rfl
@[simp] theorem State.onFetch_irqLine (s : State) : s.onFetch.irqLine = s.irqLine := rfl
@[simp] theorem State.onFetch_resetPending (s : State) : s.onFetch.resetPending = s.resetPending := rfl
@[simp] theorem State.onFetch_halted (s : State) : s.onFetch.halted = s.halted := rfl
@[simp] theorem State.onFetch_ram (s : State) : s.onFetch.ram = s.ram := rfl
@[simp] theorem State.onFetch_cart (s : State) : s.onFetch.cart = s.cart := rfl
@[simp] theorem State.onFetch_periphIn (s : State) : s.onFetch.periphIn = s.periphAfterRead s.pc := rfl
@[simp] theorem State.onFetch_accesses (s : State) : s.onFetch.accesses = s.accesses ++ [⟨.read, s.pc, s.readValue s.pc⟩] := rfl

@[simp] theorem State.fetchOpcode_a (s : State) : s.fetchOpcode.a = s.a := rfl
@[simp] theorem State.fetchOpcode_x (s : State) : s.fetchOpcode.x = s.x := rfl
@[simp] theorem State.fetchOpcode_y (s : State) : s.fetchOpcode.y = s.y := rfl
@[simp] theorem State.fetchOpcode_sp (s : State) : s.fetchOpcode.sp = s.sp := rfl
@[simp] theorem State.fetchOpcode_pc (s : State) : s.fetchOpcode.pc = s.pc + 1#16 := rfl
@[simp] theorem State.fetchOpcode_flags (s : State) : s.fetchOpcode.flags = s.flags := rfl
@[simp] theorem State.fetchOpcode_ic (s : State) : s.fetchOpcode.ic = s.ic := rfl
@[simp] theorem State.fetchOpcode_cycles (s : State) : s.fetchOpcode.cycles = s.cycles + 1 := rfl
@[simp] theorem State.fetchOpcode_nmiPending (s : State) : s.fetchOpcode.nmiPending = s.nmiPending := rfl
@[simp] theorem State.fetchOpcode_irqLine (s : State) : s.fetchOpcode.irqLine = s.irqLine := rfl
@[simp] theorem State.fetchOpcode_resetPending (s : State) : s.fetchOpcode.resetPending = s.resetPending := rfl
@[simp] theorem State.fetchOpcode_halted (s : State) : s.fetchOpcode.halted = s.halted := rfl
@[simp] theorem State.fetchOpcode_ram (s : State) : s.fetchOpcode.ram = s.ram := rfl
@[simp] theorem State.fetchOpcode_cart (s : State) : s.fetchOpcode.cart = s.cart := rfl
@[simp] theorem State.fetchOpcode_periphIn (s : State) : s.fetchOpcode.periphIn = s.periphAfterRead s.pc := rfl
@[simp] theorem State.fetchOpcode_accesses (s : State) : s.fetchOpcode.accesses = [⟨.read, s.pc, s.readValue s.pc⟩] := rfl

@[simp] theorem State.push_a (s : State) (v : Byte) : (s.push v).a = s.a := rfl
@[simp] theorem State.push_x (s : State) (v : Byte) : (s.push v).x = s.x := rfl
@[simp] theorem State.push_y (s : State) (v : Byte) : (s.push v).y = s.y := rfl
@[simp] theorem State.push_sp (s : State) (v : Byte) : (s.push v).sp = s.sp - 1#8 := rfl
@[simp] theorem State.push_pc (s : State) (v : Byte) : (s.push v).pc = s.pc := rfl
@[simp] theorem State.push_flags (s : State) (v : Byte) : (s.push v).flags = s.flags := rfl
@[simp] theorem State.push_ic (s : State) (v : Byte) : (s.push v).ic = s.ic := rfl
@[simp] theorem State.push_cycles (s : State) (v : Byte) : (s.push v).cycles = s.cycles + 1 := rfl
@[simp] theorem State.push_nmiPending (s : State) (v : Byte) : (s.push v).nmiPending = s.nmiPending := rfl
@[simp] theorem State.push_irqLine (s : State) (v : Byte) : (s.push v).irqLine = s.irqLine := rfl
@[simp] theorem State.push_resetPending (s : State) (v : Byte) : (s.push v).resetPending = s.resetPending := rfl
@[simp] theorem State.push_halted (s : State) (v : Byte) : (s.push v).halted = s.halted := rfl
@[simp] theorem State.push_ram (s : State) (v : Byte) : (s.push v).ram = s.ramAfterWrite (stackAddr s.sp) v := rfl
@[simp] theorem State.push_cart (s : State) (v : Byte) : (s.push v).cart = s.cartAfterWrite (stackAddr s.sp) v := rfl
@[simp] theorem State.push_periphIn (s : State) (v : Byte) : (s.push v).periphIn = s.periphIn := rfl
@[simp] theorem State.push_accesses (s : State) (v : Byte) :
    (s.push v).accesses = s.accesses ++ [⟨.write, stackAddr s.sp, v⟩] := rfl

@[simp] theorem State.onPull_a (s : State) : s.onPull.a = s.a := rfl
@[simp] theorem State.onPull_x (s : State) : s.onPull.x = s.x := rfl
@[simp] theorem State.onPull_y (s : State) : s.onPull.y = s.y := rfl
@[simp] theorem State.onPull_sp (s : State) : s.onPull.sp = s.sp + 1#8 := rfl
@[simp] theorem State.onPull_pc (s : State) : s.onPull.pc = s.pc := rfl
@[simp] theorem State.onPull_flags (s : State) : s.onPull.flags = s.flags := rfl
@[simp] theorem State.onPull_ic (s : State) : s.onPull.ic = s.ic := rfl
@[simp] theorem State.onPull_cycles (s : State) : s.onPull.cycles = s.cycles + 1 := rfl
@[simp] theorem State.onPull_nmiPending (s : State) : s.onPull.nmiPending = s.nmiPending := rfl
@[simp] theorem State.onPull_irqLine (s : State) : s.onPull.irqLine = s.irqLine := rfl
@[simp] theorem State.onPull_resetPending (s : State) : s.onPull.resetPending = s.resetPending := rfl
@[simp] theorem State.onPull_halted (s : State) : s.onPull.halted = s.halted := rfl
@[simp] theorem State.onPull_ram (s : State) : s.onPull.ram = s.ram := rfl
@[simp] theorem State.onPull_cart (s : State) : s.onPull.cart = s.cart := rfl
@[simp] theorem State.onPull_periphIn (s : State) : s.onPull.periphIn = s.periphAfterRead (stackAddr (s.sp + 1#8)) := rfl
@[simp] theorem State.onPull_accesses (s : State) :
    s.onPull.accesses = s.accesses ++ [⟨.read, stackAddr (s.sp + 1#8), s.pullValue⟩] := rfl

@[simp] theorem State.touchStack_a (s : State) : s.touchStack.a = s.a := rfl
@[simp] theorem State.touchStack_x (s : State) : s.touchStack.x = s.x := rfl
@[simp] theorem State.touchStack_y (s : State) : s.touchStack.y = s.y := rfl
@[simp] theorem State.touchStack_sp (s : State) : s.touchStack.sp = s.sp := rfl
@[simp] theorem State.touchStack_pc (s : State) : s.touchStack.pc = s.pc := rfl
@[simp] theorem State.touchStack_flags (s : State) : s.touchStack.flags = s.flags := rfl
@[simp] theorem State.touchStack_ic (s : State) : s.touchStack.ic = s.ic := rfl
@[simp] theorem State.touchStack_cycles (s : State) : s.touchStack.cycles = s.cycles + 1 := rfl
@[simp] theorem State.touchStack_nmiPending (s : State) : s.touchStack.nmiPending = s.nmiPending := rfl
@[simp] theorem State.touchStack_irqLine (s : State) : s.touchStack.irqLine = s.irqLine := rfl
@[simp] theorem State.touchStack_resetPending (s : State) : s.touchStack.resetPending = s.resetPending := rfl
@[simp] theorem State.touchStack_halted (s : State) : s.touchStack.halted = s.halted := rfl
@[simp] theorem State.touchStack_ram (s : State) : s.touchStack.ram = s.ram := rfl
@[simp] theorem State.touchStack_cart (s : State) : s.touchStack.cart = s.cart := rfl
@[simp] theorem State.touchStack_periphIn (s : State) : s.touchStack.periphIn = s.periphAfterRead (stackAddr s.sp) := rfl
@[simp] theorem State.touchStack_accesses (s : State) :
    s.touchStack.accesses = s.accesses ++ [⟨.read, stackAddr s.sp, s.readValue (stackAddr s.sp)⟩] := rfl

@[simp] theorem State.setNZ_a (s : State) (v : Byte) : (s.setNZ v).a = s.a := rfl
@[simp] theorem State.setNZ_x (s : State) (v : Byte) : (s.setNZ v).x = s.x := rfl
@[simp] theorem State.setNZ_y (s : State) (v : Byte) : (s.setNZ v).y = s.y := rfl
@[simp] theorem State.setNZ_sp (s : State) (v : Byte) : (s.setNZ v).sp = s.sp := rfl
@[simp] theorem State.setNZ_pc (s : State) (v : Byte) : (s.setNZ v).pc = s.pc := rfl
@[simp] theorem State.setNZ_flags (s : State) (v : Byte) : (s.setNZ v).flags = s.flags.setNZ v := rfl
@[simp] theorem State.setNZ_ic (s : State) (v : Byte) : (s.setNZ v).ic = s.ic := rfl
@[simp] theorem State.setNZ_cycles (s : State) (v : Byte) : (s.setNZ v).cycles = s.cycles := rfl
@[simp] theorem State.setNZ_nmiPending (s : State) (v : Byte) : (s.setNZ v).nmiPending = s.nmiPending := rfl
@[simp] theorem State.setNZ_irqLine (s : State) (v : Byte) : (s.setNZ v).irqLine = s.irqLine := rfl
@[simp] theorem State.setNZ_resetPending (s : State) (v : Byte) : (s.setNZ v).resetPending = s.resetPending := rfl
@[simp] theorem State.setNZ_halted (s : State) (v : Byte) : (s.setNZ v).halted = s.halted := rfl
@[simp] theorem State.setNZ_ram (s : State) (v : Byte) : (s.setNZ v).ram = s.ram := rfl
@[simp] theorem State.setNZ_cart (s : State) (v : Byte) : (s.setNZ v).cart = s.cart := rfl
@[simp] theorem State.setNZ_periphIn (s : State) (v : Byte) : (s.setNZ v).periphIn = s.periphIn := rfl
@[simp] theorem State.setNZ_accesses (s : State) (v : Byte) : (s.setNZ v).accesses = s.accesses := rfl

@[simp] theorem State.endInstr_a (s : State) : s.endInstr.a = s.a := rfl
@[simp] theorem State.endInstr_x (s : State) : s.endInstr.x = s.x := rfl
@[simp] theorem State.endInstr_y (s : State) : s.endInstr.y = s.y := rfl
@[simp] theorem State.endInstr_sp (s : State) : s.endInstr.sp = s.sp := rfl
@[simp] theorem State.endInstr_pc (s : State) : s.endInstr.pc = s.pc := rfl
@[simp] theorem State.endInstr_flags (s : State) : s.endInstr.flags = s.flags := rfl
@[simp] theorem State.endInstr_ic (s : State) : s.endInstr.ic = ICycle.boundary := rfl
@[simp] theorem State.endInstr_cycles (s : State) : s.endInstr.cycles = s.cycles := rfl
@[simp] theorem State.endInstr_nmiPending (s : State) : s.endInstr.nmiPending = s.nmiPending := rfl
@[simp] theorem State.endInstr_irqLine (s : State) : s.endInstr.irqLine = s.irqLine := rfl
@[simp] theorem State.endInstr_resetPending (s : State) : s.endInstr.resetPending = s.resetPending := rfl
@[simp] theorem State.endInstr_halted (s : State) : s.endInstr.halted = s.halted := rfl
@[simp] theorem State.endInstr_ram (s : State) : s.endInstr.ram = s.ram := rfl
@[simp] theorem State.endInstr_cart (s : State) : s.endInstr.cart = s.cart := rfl
@[simp] theorem State.endInstr_periphIn (s : State) : s.endInstr.periphIn = s.periphIn := rfl
@[simp] theorem State.endInstr_accesses (s : State) : s.endInstr.accesses = s.accesses := rfl

@[simp] theorem State.nextTick_a (s : State) : s.nextTick.a = s.a := rfl
@[simp] theorem State.nextTick_x (s : State) : s.nextTick.x = s.x := rfl
@[simp] theorem State.nextTick_y (s : State) : s.nextTick.y = s.y := rfl
@[simp] theorem State.nextTick_sp (s : State) : s.nextTick.sp = s.sp := rfl
@[simp] theorem State.nextTick_pc (s : State) : s.nextTick.pc = s.pc := rfl
@[simp] theorem State.nextTick_flags (s : State) : s.nextTick.flags = s.flags := rfl
@[simp] theorem State.nextTick_ic (s : State) : s.nextTick.ic = { s.ic with tick := s.ic.tick + 1 } := rfl
@[simp] theorem State.nextTick_cycles (s : State) : s.nextTick.cycles = s.cycles := rfl
@[simp] theorem State.nextTick_nmiPending (s : State) : s.nextTick.nmiPending = s.nmiPending := rfl
@[simp] theorem State.nextTick_irqLine (s : State) : s.nextTick.irqLine = s.irqLine := rfl
@[simp] theorem State.nextTick_resetPending (s : State) : s.nextTick.resetPending = s.resetPending := rfl
@[simp] theorem State.nextTick_halted (s : State) : s.nextTick.halted = s.halted := rfl
@[simp] theorem State.nextTick_ram (s : State) : s.nextTick.ram = s.ram := rfl
@[simp] theorem State.nextTick_cart (s : State) : s.nextTick.cart = s.cart := rfl
@[simp] theorem State.nextTick_periphIn (s : State) : s.nextTick.periphIn = s.periphIn := rfl
@[simp] theorem State.nextTick_accesses (s : State) : s.nextTick.accesses = s.accesses := rfl

@[simp] theorem State.toExecute_a (s : State) : s.toExecute.a = s.a := rfl
@[simp] theorem State.toExecute_x (s : State) : s.toExecute.x = s.x := rfl
@[simp] theorem State.toExecute_y (s : State) : s.toExecute.y = s.y := rfl
@[simp] theorem State.toExecute_sp (s : State) : s.toExecute.sp = s.sp := rfl
@[simp] theorem State.toExecute_pc (s : State) : s.toExecute.pc = s.pc := rfl
@[simp] theorem State.toExecute_flags (s : State) : s.toExecute.flags = s.flags := rfl
@[simp] theorem State.toExecute_ic (s : State) : s.toExecute.ic = { s.ic with opstate := .execute, tick := 0 } := rfl
@[simp] theorem State.toExecute_cycles (s : State) : s.toExecute.cycles = s.cycles := rfl
@[simp] theorem State.toExecute_nmiPending (s : State) : s.toExecute.nmiPending = s.nmiPending := rfl
@[simp] theorem State.toExecute_irqLine (s : State) : s.toExecute.irqLine = s.irqLine := rfl
@[simp] theorem State.toExecute_resetPending (s : State) : s.toExecute.resetPending = s.resetPending := rfl
@[simp] theorem State.toExecute_halted (s : State) : s.toExecute.halted = s.halted := rfl
@[simp] theorem State.toExecute_ram (s : State) : s.toExecute.ram = s.ram := rfl
@[simp] theorem State.toExecute_cart (s : State) : s.toExecute.cart = s.cart := rfl
@[simp] theorem State.toExecute_periphIn (s : State) : s.toExecute.periphIn = s.periphIn := rfl
@[simp] theorem State.toExecute_accesses (s : State) : s.toExecute.accesses = s.accesses := rfl

@[simp] theorem State.fuse_a (s : State) : s.fuse.a = s.a := rfl
@[simp] theorem State.fuse_x (s : State) : s.fuse.x = s.x := rfl
@[simp] theorem State.fuse_y (s : State) : s.fuse.y = s.y := rfl
@[simp] theorem State.fuse_sp (s : State) : s.fuse.sp = s.sp := rfl
@[simp] theorem State.fuse_pc (s : State) : s.fuse.pc = s.pc := rfl
@[simp] theorem State.fuse_flags (s : State) : s.fuse.flags = s.flags := rfl
@[simp] theorem State.fuse_ic (s : State) : s.fuse.ic = { s.ic with skipTransition := true } := rfl
@[simp] theorem State.fuse_cycles (s : State) : s.fuse.cycles = s.cycles := rfl
@[simp] theorem State.fuse_nmiPending (s : State) : s.fuse.nmiPending = s.nmiPending := rfl
@[simp] theorem State.fuse_irqLine (s : State) : s.fuse.irqLine = s.irqLine := rfl
@[simp] theorem State.fuse_resetPending (s : State) : s.fuse.resetPending = s.resetPending := rfl
@[simp] theorem State.fuse_halted (s : State) : s.fuse.halted = s.halted := rfl
@[simp] theorem State.fuse_ram (s : State) : s.fuse.ram = s.ram := rfl
@[simp] theorem State.fuse_cart (s : State) : s.fuse.cart = s.cart := rfl
@[simp] theorem State.fuse_periphIn (s : State) : s.fuse.periphIn = s.periphIn := rfl
@[simp] theorem State.fuse_accesses (s : State) : s.fuse.accesses = s.accesses := rfl

@[simp] theorem State.latchAddress_a (s : State) (a : Word) : (s.latchAddress a).a = s.a := rfl
@[simp] theorem State.latchAddress_x (s : State) (a : Word) : (s.latchAddress a).x = s.x := rfl
@[simp] theorem State.latchAddress_y (s : State) (a : Word) : (s.latchAddress a).y = s.y := rfl
@[simp] theorem State.latchAddress_sp (s : State) (a : Word) : (s.latchAddress a).sp = s.sp := rfl
@[simp] theorem State.latchAddress_pc (s : State) (a : Word) : (s.latchAddress a).pc = s.pc := rfl
@[simp] theorem State.latchAddress_flags (s : State) (a : Word) : (s.latchAddress a).flags = s.flags := rfl
@[simp] theorem State.latchAddress_ic (s : State) (a : Word) : (s.latchAddress a).ic = { s.ic with address := a } := rfl
@[simp] theorem State.latchAddress_cycles (s : State) (a : Word) : (s.latchAddress a).cycles = s.cycles := rfl
@[simp] theorem State.latchAddress_nmiPending (s : State) (a : Word) : (s.latchAddress a).nmiPending = s.nmiPending := rfl
@[simp] theorem State.latchAddress_irqLine (s : State) (a : Word) : (s.latchAddress a).irqLine = s.irqLine := rfl
@[simp] theorem State.latchAddress_resetPending (s : State) (a : Word) : (s.latchAddress a).resetPending = s.resetPending := rfl
@[simp] theorem State.latchAddress_halted (s : State) (a : Word) : (s.latchAddress a).halted = s.halted := rfl
@[simp] theorem State.latchAddress_ram (s : State) (a : Word) : (s.latchAddress a).ram = s.ram := rfl
@[simp] theorem State.latchAddress_cart (s : State) (a : Word) : (s.latchAddress a).cart = s.cart := rfl
@[simp] theorem State.latchAddress_periphIn (s : State) (a : Word) : (s.latchAddress a).periphIn = s.periphIn := rfl
@[simp] theorem State.latchAddress_accesses (s : State) (a : Word) : (s.latchAddress a).accesses = s.accesses := rfl

@[simp] theorem State.latchBase_a (s : State) (a : Word) : (s.latchBase a).a = s.a := rfl
@[simp] theorem State.latchBase_x (s : State) (a : Word) : (s.latchBase a).x = s.x := rfl
@[simp] theorem State.latchBase_y (s : State) (a : Word) : (s.latchBase a).y = s.y := rfl
@[simp] theorem State.latchBase_sp (s : State) (a : Word) : (s.latchBase a).sp = s.sp := rfl
@[simp] theorem State.latchBase_pc (s : State) (a : Word) : (s.latchBase a).pc = s.pc := rfl
@[simp] theorem State.latchBase_flags (s : State) (a : Word) : (s.latchBase a).flags = s.flags := rfl
@[simp] theorem State.latchBase_ic (s : State) (a : Word) : (s.latchBase a).ic = { s.ic with baseAddress := a } := rfl
@[simp] theorem State.latchBase_cycles (s : State) (a : Word) : (s.latchBase a).cycles = s.cycles := rfl
@[simp] theorem State.latchBase_nmiPending (s : State) (a : Word) : (s.latchBase a).nmiPending = s.nmiPending := rfl
@[simp] theorem State.latchBase_irqLine (s : State) (a : Word) : (s.latchBase a).irqLine = s.irqLine := rfl
@[simp] theorem State.latchBase_resetPending (s : State) (a : Word) : (s.latchBase a).resetPending = s.resetPending := rfl
@[simp] theorem State.latchBase_halted (s : State) (a : Word) : (s.latchBase a).halted = s.halted := rfl
@[simp] theorem State.latchBase_ram (s : State) (a : Word) : (s.latchBase a).ram = s.ram := rfl
@[simp] theorem State.latchBase_cart (s : State) (a : Word) : (s.latchBase a).cart = s.cart := rfl
@[simp] theorem State.latchBase_periphIn (s : State) (a : Word) : (s.latchBase a).periphIn = s.periphIn := rfl
@[simp] theorem State.latchBase_accesses (s : State) (a : Word) : (s.latchBase a).accesses = s.accesses := rfl

@[simp] theorem State.latchTmp_a (s : State) (v : Byte) : (s.latchTmp v).a = s.a := rfl
@[simp] theorem State.latchTmp_x (s : State) (v : Byte) : (s.latchTmp v).x = s.x := rfl
@[simp] theorem State.latchTmp_y (s : State) (v : Byte) : (s.latchTmp v).y = s.y := rfl
@[simp] theorem State.latchTmp_sp (s : State) (v : Byte) : (s.latchTmp v).sp = s.sp := rfl
@[simp] theorem State.latchTmp_pc (s : State) (v : Byte) : (s.latchTmp v).pc = s.pc := rfl
@[simp] theorem State.latchTmp_flags (s : State) (v : Byte) : (s.latchTmp v).flags = s.flags := rfl
@[simp] theorem State.latchTmp_ic (s : State) (v : Byte) : (s.latchTmp v).ic = { s.ic with tmp := v } := rfl
@[simp] theorem State.latchTmp_cycles (s : State) (v : Byte) : (s.latchTmp v).cycles = s.cycles := rfl
@[simp] theorem State.latchTmp_nmiPending (s : State) (v : Byte) : (s.latchTmp v).nmiPending = s.nmiPending := rfl
@[simp] theorem State.latchTmp_irqLine (s : State) (v : Byte) : (s.latchTmp v).irqLine = s.irqLine := rfl
@[simp] theorem State.latchTmp_resetPending (s : State) (v : Byte) : (s.latchTmp v).resetPending = s.resetPending := rfl
@[simp] theorem State.latchTmp_halted (s : State) (v : Byte) : (s.latchTmp v).halted = s.halted := rfl
@[simp] theorem State.latchTmp_ram (s : State) (v : Byte) : (s.latchTmp v).ram = s.ram := rfl
@[simp] theorem State.latchTmp_cart (s : State) (v : Byte) : (s.latchTmp v).cart = s.cart := rfl
@[simp] theorem State.latchTmp_periphIn (s : State) (v : Byte) : (s.latchTmp v).periphIn = s.periphIn := rfl
@[simp] theorem State.latchTmp_accesses (s : State) (v : Byte) : (s.latchTmp v).accesses = s.accesses := rfl

end Sys2Proof.Machine
end

