-- ==== Sys2Proof/Laws/Bus.lean ====
section
/-! SUPPORT. The laws of the bus: a cell depends on the address and the sizes alone, a read changes no memory, a write changes
the one cell it names, and both keep the canonical form. -/

namespace Sys2Proof.Machine

theorem busCell_congr {c c' : Cartridge} (h : c.prgRomLog2 = c'.prgRomLog2) (h' : c.prgRamLog2 = c'.prgRamLog2) (a : Word) :
    busCell c a = busCell c' a := by
  have h1 : c.prgRomSize = c'.prgRomSize := by simp only [Cartridge.prgRomSize, h]
  have h2 : c.prgRamSize = c'.prgRamSize := by simp only [Cartridge.prgRamSize, h']
  unfold busCell cartCell
  rw [h1, h2]

@[simp] theorem cpuWrite_prgRomLog2 (c : Cartridge) (k : CartCell) (v : Byte) : (cpuWrite c k v).prgRomLog2 = c.prgRomLog2 := by
  cases k <;> rfl

@[simp] theorem cpuWrite_prgRamLog2 (c : Cartridge) (k : CartCell) (v : Byte) : (cpuWrite c k v).prgRamLog2 = c.prgRamLog2 := by
  cases k <;> rfl

@[simp] theorem State.cartAfterWrite_prgRomLog2 (s : State) (a : Word) (v : Byte) :
    (s.cartAfterWrite a v).prgRomLog2 = s.cart.prgRomLog2 := by
  unfold State.cartAfterWrite; split <;> simp

@[simp] theorem State.cartAfterWrite_prgRamLog2 (s : State) (a : Word) (v : Byte) :
    (s.cartAfterWrite a v).prgRamLog2 = s.cart.prgRamLog2 := by
  unfold State.cartAfterWrite; split <;> simp

theorem State.cellAt_congr {s t : State} (h : t.cart = s.cart) (a : Word) : t.cellAt a = s.cellAt a := by
  simp [State.cellAt, h]

@[simp] theorem State.cellAt_onRead (s : State) (a b : Word) : (s.onRead a).cellAt b = s.cellAt b := rfl

@[simp] theorem State.cellAt_onWrite (s : State) (a b : Word) (v : Byte) : (s.onWrite a v).cellAt b = s.cellAt b :=
  busCell_congr (by simp) (by simp) b

@[simp] theorem State.cellAt_onFetch (s : State) (b : Word) : s.onFetch.cellAt b = s.cellAt b := rfl

@[simp] theorem State.cellAt_fetchOpcode (s : State) (b : Word) : s.fetchOpcode.cellAt b = s.cellAt b := rfl

@[simp] theorem State.cellAt_touchStack (s : State) (b : Word) : s.touchStack.cellAt b = s.cellAt b := rfl

@[simp] theorem State.cellAt_onPull (s : State) (b : Word) : s.onPull.cellAt b = s.cellAt b := rfl

@[simp] theorem State.cellAt_push (s : State) (v : Byte) (b : Word) : (s.push v).cellAt b = s.cellAt b :=
  State.cellAt_onWrite s _ b v

/-- A delivery depends on the address and the sizes alone. -/
theorem delivery_congr {c c' : Cartridge} (h : c.prgRomLog2 = c'.prgRomLog2) (h' : c.prgRamLog2 = c'.prgRamLog2) :
    BusAccess.delivery c = BusAccess.delivery c' := by
  funext x
  simp only [BusAccess.delivery, busCell_congr h h']

theorem State.deliveries_onRead (s : State) (a : Word) :
    (s.onRead a).deliveries = s.deliveries ++ (BusAccess.delivery s.cart ⟨.read, a, s.readValue a⟩).toList := by
  simp only [State.deliveries, State.onRead, List.filterMap_append]
  rfl

theorem State.deliveries_onWrite (s : State) (a : Word) (v : Byte) :
    (s.onWrite a v).deliveries = s.deliveries ++ (BusAccess.delivery s.cart ⟨.write, a, v⟩).toList := by
  have hc : BusAccess.delivery (s.onWrite a v).cart = BusAccess.delivery s.cart := delivery_congr (by simp) (by simp)
  simp only [State.deliveries, hc]
  simp only [State.onWrite, List.filterMap_append]
  rfl

theorem State.writable_of_cellAt {s t : State} {a : Word} (h : t.cellAt a = s.cellAt a) : t.writable a = s.writable a := by
  simp [State.writable, h]

@[simp] theorem State.writable_push (s : State) (v : Byte) (b : Word) : (s.push v).writable b = s.writable b :=
  State.writable_of_cellAt (State.cellAt_push s v b)

/-- A byte of memory depends on the RAM array and the cartridge alone. -/
theorem State.peek_congr {s t : State} (hr : t.ram = s.ram) (hc : t.cart = s.cart) (a : Word) : t.peek a = s.peek a := by
  simp [State.peek, State.cellAt, hr, hc]

theorem memoryKept_of_eq {s t : State} (hr : t.ram = s.ram) (hc : t.cart = s.cart) : MemoryKept s t :=
  ⟨State.peek_congr hr hc, hc⟩

@[simp] theorem State.peek_onRead (s : State) (a b : Word) : (s.onRead a).peek b = s.peek b := rfl

@[simp] theorem State.peek_onFetch (s : State) (b : Word) : s.onFetch.peek b = s.peek b := rfl

@[simp] theorem State.peek_fetchOpcode (s : State) (b : Word) : s.fetchOpcode.peek b = s.peek b := rfl

@[simp] theorem State.peek_touchStack (s : State) (b : Word) : s.touchStack.peek b = s.peek b := rfl

@[simp] theorem State.peek_onPull (s : State) (b : Word) : s.onPull.peek b = s.peek b := rfl

theorem State.peek_push (s : State) (v : Byte) (b : Word) : (s.push v).peek b = (s.onWrite (stackAddr s.sp) v).peek b := rfl

/-- A read of a cell that is the block's own gives its byte. -/
theorem State.readValue_of_peek {s : State} {a : Word} {v : Byte} (h : s.peek a = some v) : s.readValue a = v := by
  revert h
  unfold State.peek State.readValue
  cases s.cellAt a <;> simp

/-- A read of a cell that is the block's own is the same in every state with its memory. -/
theorem State.readValue_congr {s t : State} {a : Word} {v : Byte} (hs : s.peek a = some v) (ht : t.peek a = s.peek a) :
    t.readValue a = s.readValue a := by
  rw [State.readValue_of_peek hs, State.readValue_of_peek (ht.trans hs)]

/-- A write is seen at its own address where it changes memory. -/
theorem State.peek_onWrite_same (s : State) (a : Word) (v : Byte) :
    (s.onWrite a v).peek a = if s.writable a then some v else s.peek a := by
  unfold State.peek State.writable
  rw [State.cellAt_onWrite]
  cases h : s.cellAt a with
  | ram k => simp [State.ramAfterWrite, h]
  | ppu k => rfl
  | apuIo k => rfl
  | cart c => cases c <;> simp [State.cartAfterWrite, h, cpuWrite, cpuRead]

/-- A write leaves every other cell alone. -/
theorem State.peek_onWrite_other (s : State) {a b : Word} (v : Byte) (h : s.cellAt a ≠ s.cellAt b) :
    (s.onWrite a v).peek b = s.peek b := by
  unfold State.peek
  rw [State.cellAt_onWrite]
  cases hb : s.cellAt b with
  | ram k =>
    cases ha : s.cellAt a with
    | ram j =>
      have : k ≠ j := fun e => h (by rw [ha, hb, e])
      simp [State.ramAfterWrite, ha, Memory.read_write_other _ _ this]
    | ppu _ => simp [State.ramAfterWrite, ha]
    | apuIo _ => simp [State.ramAfterWrite, ha]
    | cart _ => simp [State.ramAfterWrite, ha]
  | ppu k => rfl
  | apuIo k => rfl
  | cart c =>
    cases ha : s.cellAt a with
    | ram j => simp [State.cartAfterWrite, ha]
    | ppu _ => simp [State.cartAfterWrite, ha]
    | apuIo _ => simp [State.cartAfterWrite, ha]
    | cart d =>
      have hne : c ≠ d := fun e => h (by rw [ha, hb, e])
      cases c <;> cases d <;> simp [State.cartAfterWrite, ha, cpuWrite, cpuRead] at hne ⊢
      exact Memory.read_write_other _ _ hne

/-- One store: what it does to memory. -/
theorem stored_onWrite (s : State) (a : Word) (v : Byte) : MemoryAfter s (s.onWrite a v) [(a, v)] := by
  refine ⟨fun b h => State.peek_onWrite_other s v (h a (by simp)), ?_⟩
  intro p hp
  simp only [List.mem_singleton] at hp
  subst hp
  exact State.peek_onWrite_same s a v

/-- A read-modify-write pair of stores at one address leaves the second one. -/
theorem stored_onWrite_twice (s : State) (a : Word) (v w : Byte) :
    MemoryAfter s ((s.onWrite a v).onWrite a w) [(a, w)] := by
  refine ⟨fun b h => ?_, ?_⟩
  · have hb := h a (by simp)
    rw [State.peek_onWrite_other _ _ (by simpa using hb), State.peek_onWrite_other _ _ hb]
  · intro p hp
    simp only [List.mem_singleton] at hp
    subst hp
    show State.peek _ a = _
    rw [State.peek_onWrite_same, State.peek_onWrite_same, State.writable_of_cellAt (State.cellAt_onWrite s a a v)]
    split <;> rfl

/-- What stores leave, from states that read alike. -/
theorem memoryAfter_congr {s s' t t' : State} {l : List (Word × Byte)} (hs : ∀ a, s'.peek a = s.peek a)
    (hc : ∀ a, s'.cellAt a = s.cellAt a) (ht : ∀ a, t'.peek a = t.peek a) (h : MemoryAfter s' t l) : MemoryAfter s t' l := by
  refine ⟨fun a ha => ?_, fun p hp => ?_⟩
  · rw [ht, h.1 a (fun b hb => by rw [hc, hc]; exact ha b hb), hs]
  · have := h.2 p hp
    unfold Stored at this ⊢
    rw [ht, this, hs, State.writable_of_cellAt (hc p.1)]

/-- The same from the RAM array and the cartridge alone. -/
theorem memoryAfter_of_eq {s s' t t' : State} {l : List (Word × Byte)} (hr : s'.ram = s.ram) (hc : s'.cart = s.cart)
    (hr' : t'.ram = t.ram) (hc' : t'.cart = t.cart) (h : MemoryAfter s' t l) : MemoryAfter s t' l :=
  memoryAfter_congr (State.peek_congr hr hc) (State.cellAt_congr hc) (State.peek_congr hr' hc') h

theorem toNat_zext16 (z : Byte) : (zext16 z).toNat = z.toNat := by
  simp only [zext16, BitVec.toNat_setWidth]
  have := z.isLt
  omega

theorem toNat_stackAddr (sp : Byte) : (stackAddr sp).toNat = 0x100 + sp.toNat := by
  simp only [stackAddr, BitVec.toNat_or, toNat_zext16]
  exact (Nat.two_pow_add_eq_or_of_lt (i := 8) sp.isLt 1).symm

/-- What mirroring leaves: a cell of internal RAM, a PPU cell, or an address from 0x4000 on. -/
theorem mirror_range (a : Word) :
    (mirror a).toNat < 0x800 ∨ (0x2000 ≤ (mirror a).toNat ∧ (mirror a).toNat ≤ 0x2007) ∨ 0x4000 ≤ (mirror a).toNat := by
  unfold mirror
  split
  · left
    simp only [BitVec.toNat_and, BitVec.toNat_ofNat]
    rw [show (0x07FF % 2 ^ 16) = 2 ^ 11 - 1 from rfl, Nat.and_two_pow_sub_one_eq_mod]
    omega
  · split
    · right; left
      simp only [BitVec.toNat_ofNat]
      omega
    · right; right
      omega

theorem mirror_of_lt {a : Word} (h : a.toNat < 0x800) : mirror a = a := by
  have : a.toNat ≤ 0x1FFF := by omega
  simp only [mirror, this, if_true]
  apply BitVec.eq_of_toNat_eq
  simp only [BitVec.toNat_and, BitVec.toNat_ofNat]
  rw [show (0x07FF % 2 ^ 16) = 2 ^ 11 - 1 from rfl, Nat.and_two_pow_sub_one_eq_mod]
  omega

/-- An address below 0x800 is a cell of the RAM array. -/
theorem State.cellAt_of_lt (s : State) {a : Word} (h : a.toNat < 0x800) : s.cellAt a = .ram a.toNat := by
  simp only [State.cellAt, busCell, mirror_of_lt h]
  rw [if_neg (by omega), if_neg (by omega), if_pos (by omega)]

/-- The zero page is RAM. -/
@[simp] theorem State.cellAt_zeroPage (s : State) (z : Byte) : s.cellAt (zext16 z) = .ram z.toNat := by
  have := z.isLt
  rw [State.cellAt_of_lt s (by rw [toNat_zext16]; omega), toNat_zext16]

/-- The stack is RAM. -/
@[simp] theorem State.cellAt_stack (s : State) (sp : Byte) : s.cellAt (stackAddr sp) = .ram (0x100 + sp.toNat) := by
  have := sp.isLt
  rw [State.cellAt_of_lt s (by rw [toNat_stackAddr]; omega), toNat_stackAddr]

@[simp] theorem State.readValue_zeroPage (s : State) (z : Byte) : s.readValue (zext16 z) = s.ram.read z.toNat := by
  simp [State.readValue]

@[simp] theorem State.readValue_stack (s : State) (sp : Byte) : s.readValue (stackAddr sp) = s.ram.read (0x100 + sp.toNat) := by
  simp [State.readValue]

@[simp] theorem State.peek_stack (s : State) (sp : Byte) : s.peek (stackAddr sp) = some (s.ram.read (0x100 + sp.toNat)) := by
  simp [State.peek]

@[simp] theorem State.writable_stack (s : State) (sp : Byte) : s.writable (stackAddr sp) = true := by
  simp [State.writable]

@[simp] theorem State.ramAfterWrite_stack (s : State) (sp v : Byte) :
    s.ramAfterWrite (stackAddr sp) v = s.ram.write (0x100 + sp.toNat) v := by
  simp [State.ramAfterWrite]

@[simp] theorem State.cartAfterWrite_stack (s : State) (sp v : Byte) : s.cartAfterWrite (stackAddr sp) v = s.cart := by
  simp [State.cartAfterWrite]

/-- The address of a mirrored RAM cell, or of a cell of the array below the cartridge, can be reached. -/
theorem ramReachable_of_cellAt {s : State} {a : Word} {k : Nat} (h : s.cellAt a = .ram k) : ramReachable k = true := by
  unfold State.cellAt busCell at h
  simp only at h
  split at h
  · cases h
  split at h
  · cases h
  split at h
  · rename_i h1 h2 h3
    cases h
    simp only [ramReachable, Bool.or_eq_true, Bool.and_eq_true, decide_eq_true_eq]
    have := mirror_range a
    omega
  · cases h

/-- The index of a cartridge RAM cell is within its size. -/
theorem prgRam_lt_of_cellAt {s : State} {a : Word} {k : Nat} (h : s.cellAt a = .cart (.prgRam k)) :
    k < s.cart.prgRamSize := by
  unfold State.cellAt busCell at h
  simp only at h
  split at h
  · cases h
  split at h
  · cases h
  split at h
  · cases h
  · simp only [cartCell, BusCell.cart.injEq] at h
    split at h
    · cases h
    split at h
    · rename_i hsz
      cases h
      unfold Cartridge.prgRamSize sizeOfLog2 at *
      split at *
      · omega
      · rw [Nat.and_two_pow_sub_one_eq_mod]
        exact Nat.mod_lt _ (Nat.two_pow_pos _)
    · cases h

/-- A write keeps the canonical form and the range of the RAM array. -/
theorem ram_onWrite {s : State} (a : Word) (v : Byte) (h : s.ram.wf = true) (h' : s.ram.within ramReachable = true) :
    (s.onWrite a v).ram.wf = true ∧ (s.onWrite a v).ram.within ramReachable = true := by
  simp only [State.onWrite_ram, State.ramAfterWrite]
  split
  · rename_i k hk
    exact ⟨Memory.wf_write _ _ _ h, Memory.within_write _ _ _ _ (ramReachable_of_cellAt hk) h'⟩
  all_goals exact ⟨h, h'⟩

/-- A write keeps the cartridge's canonical form and range. -/
theorem cartOk_onWrite {s : State} (a : Word) (v : Byte) (h : Cartridge.Ok s.cart) :
    Cartridge.Ok (s.onWrite a v).cart := by
  simp only [State.onWrite_cart, State.cartAfterWrite]
  split
  · rename_i c hc
    cases c with
    | prgRam k =>
      obtain ⟨h1, ⟨h2, h2'⟩, h3, h4⟩ := h
      exact ⟨h1, ⟨Memory.wf_write _ _ _ h2,
        Memory.within_write _ _ _ _ (decide_eq_true (prgRam_lt_of_cellAt hc)) h2'⟩, h3, h4⟩
    | prgRom k => exact h
    | unmapped => exact h
  all_goals exact h

/-- A write of the CPU changes nothing of the cartridge but its RAM. -/
theorem cart_onWrite (s : State) (a : Word) (v : Byte) :
    (s.onWrite a v).cart = { s.cart with prgRam := (s.onWrite a v).cart.prgRam } := by
  simp only [State.onWrite_cart, State.cartAfterWrite]
  split
  · rename_i c hc
    cases c <;> rfl
  all_goals rfl

end Sys2Proof.Machine
end

