-- ==== Sys2Proof/Laws/Operands.lean ====
section
/-! SUPPORT. What the addressing-mode resolvers and the shared instruction forms do, each said once: the resolvers only read, and
move PC past the operand bytes. -/

namespace Sys2Proof

open Machine

/-- The cycles of a mode up to the one at which the effective address is known (41_addressing_modes.md R165 to R173). -/
def MemMode.addressCycles : MemMode → Nat
  | .zp _ => 2
  | .zpx _ | .zpy _ | .abs _ | .abx _ | .aby _ => 3
  | .izx _ => 5
  | .izy _ => 4

@[simp] theorem MemMode.resolve_a (m : MemMode) (s : State) : (m.resolve s).a = s.a := by
  cases m <;> simp [MemMode.resolve]
@[simp] theorem MemMode.resolve_x (m : MemMode) (s : State) : (m.resolve s).x = s.x := by
  cases m <;> simp [MemMode.resolve]
@[simp] theorem MemMode.resolve_y (m : MemMode) (s : State) : (m.resolve s).y = s.y := by
  cases m <;> simp [MemMode.resolve]
@[simp] theorem MemMode.resolve_sp (m : MemMode) (s : State) : (m.resolve s).sp = s.sp := by
  cases m <;> simp [MemMode.resolve]
@[simp] theorem MemMode.resolve_flags (m : MemMode) (s : State) : (m.resolve s).flags = s.flags := by
  cases m <;> simp [MemMode.resolve]
@[simp] theorem MemMode.resolve_ic (m : MemMode) (s : State) : (m.resolve s).ic = s.ic := by
  cases m <;> simp [MemMode.resolve]
@[simp] theorem MemMode.resolve_nmiPending (m : MemMode) (s : State) : (m.resolve s).nmiPending = s.nmiPending := by
  cases m <;> simp [MemMode.resolve]
@[simp] theorem MemMode.resolve_irqLine (m : MemMode) (s : State) : (m.resolve s).irqLine = s.irqLine := by
  cases m <;> simp [MemMode.resolve]
@[simp] theorem MemMode.resolve_resetPending (m : MemMode) (s : State) : (m.resolve s).resetPending = s.resetPending := by
  cases m <;> simp [MemMode.resolve]
@[simp] theorem MemMode.resolve_halted (m : MemMode) (s : State) : (m.resolve s).halted = s.halted := by
  cases m <;> simp [MemMode.resolve]
@[simp] theorem MemMode.resolve_ram (m : MemMode) (s : State) : (m.resolve s).ram = s.ram := by
  cases m <;> simp [MemMode.resolve]
@[simp] theorem MemMode.resolve_cart (m : MemMode) (s : State) : (m.resolve s).cart = s.cart := by
  cases m <;> simp [MemMode.resolve]

@[simp] theorem MemMode.resolve_pc (m : MemMode) (s : State) :
    (m.resolve s).pc = s.pc + BitVec.ofNat 16 m.mode.length := by
  cases m <;> simp [MemMode.resolve, MemMode.mode, Mode.length, BitVec.add_assoc]

@[simp] theorem MemMode.resolve_cycles (m : MemMode) (s : State) : (m.resolve s).cycles = s.cycles + m.addressCycles := by
  cases m <;> simp [MemMode.resolve, MemMode.addressCycles]

@[simp] theorem MemMode.beforeRead_a (m : MemMode) (s : State) : (m.beforeRead s).a = s.a := by
  unfold MemMode.beforeRead; split <;> simp
@[simp] theorem MemMode.beforeRead_x (m : MemMode) (s : State) : (m.beforeRead s).x = s.x := by
  unfold MemMode.beforeRead; split <;> simp
@[simp] theorem MemMode.beforeRead_y (m : MemMode) (s : State) : (m.beforeRead s).y = s.y := by
  unfold MemMode.beforeRead; split <;> simp
@[simp] theorem MemMode.beforeRead_sp (m : MemMode) (s : State) : (m.beforeRead s).sp = s.sp := by
  unfold MemMode.beforeRead; split <;> simp
@[simp] theorem MemMode.beforeRead_flags (m : MemMode) (s : State) : (m.beforeRead s).flags = s.flags := by
  unfold MemMode.beforeRead; split <;> simp
@[simp] theorem MemMode.beforeRead_ic (m : MemMode) (s : State) : (m.beforeRead s).ic = s.ic := by
  unfold MemMode.beforeRead; split <;> simp
@[simp] theorem MemMode.beforeRead_nmiPending (m : MemMode) (s : State) : (m.beforeRead s).nmiPending = s.nmiPending := by
  unfold MemMode.beforeRead; split <;> simp
@[simp] theorem MemMode.beforeRead_irqLine (m : MemMode) (s : State) : (m.beforeRead s).irqLine = s.irqLine := by
  unfold MemMode.beforeRead; split <;> simp
@[simp] theorem MemMode.beforeRead_resetPending (m : MemMode) (s : State) : (m.beforeRead s).resetPending = s.resetPending := by
  unfold MemMode.beforeRead; split <;> simp
@[simp] theorem MemMode.beforeRead_halted (m : MemMode) (s : State) : (m.beforeRead s).halted = s.halted := by
  unfold MemMode.beforeRead; split <;> simp
@[simp] theorem MemMode.beforeRead_ram (m : MemMode) (s : State) : (m.beforeRead s).ram = s.ram := by
  unfold MemMode.beforeRead; split <;> simp
@[simp] theorem MemMode.beforeRead_cart (m : MemMode) (s : State) : (m.beforeRead s).cart = s.cart := by
  unfold MemMode.beforeRead; split <;> simp
@[simp] theorem MemMode.beforeRead_pc (m : MemMode) (s : State) : (m.beforeRead s).pc = s.pc + BitVec.ofNat 16 m.mode.length := by
  unfold MemMode.beforeRead; split <;> simp

@[simp] theorem MemMode.beforeWrite_a (m : MemMode) (s : State) : (m.beforeWrite s).a = s.a := by
  unfold MemMode.beforeWrite; split <;> simp
@[simp] theorem MemMode.beforeWrite_x (m : MemMode) (s : State) : (m.beforeWrite s).x = s.x := by
  unfold MemMode.beforeWrite; split <;> simp
@[simp] theorem MemMode.beforeWrite_y (m : MemMode) (s : State) : (m.beforeWrite s).y = s.y := by
  unfold MemMode.beforeWrite; split <;> simp
@[simp] theorem MemMode.beforeWrite_sp (m : MemMode) (s : State) : (m.beforeWrite s).sp = s.sp := by
  unfold MemMode.beforeWrite; split <;> simp
@[simp] theorem MemMode.beforeWrite_flags (m : MemMode) (s : State) : (m.beforeWrite s).flags = s.flags := by
  unfold MemMode.beforeWrite; split <;> simp
@[simp] theorem MemMode.beforeWrite_ic (m : MemMode) (s : State) : (m.beforeWrite s).ic = s.ic := by
  unfold MemMode.beforeWrite; split <;> simp
@[simp] theorem MemMode.beforeWrite_nmiPending (m : MemMode) (s : State) : (m.beforeWrite s).nmiPending = s.nmiPending := by
  unfold MemMode.beforeWrite; split <;> simp
@[simp] theorem MemMode.beforeWrite_irqLine (m : MemMode) (s : State) : (m.beforeWrite s).irqLine = s.irqLine := by
  unfold MemMode.beforeWrite; split <;> simp
@[simp] theorem MemMode.beforeWrite_resetPending (m : MemMode) (s : State) : (m.beforeWrite s).resetPending = s.resetPending := by
  unfold MemMode.beforeWrite; split <;> simp
@[simp] theorem MemMode.beforeWrite_halted (m : MemMode) (s : State) : (m.beforeWrite s).halted = s.halted := by
  unfold MemMode.beforeWrite; split <;> simp
@[simp] theorem MemMode.beforeWrite_ram (m : MemMode) (s : State) : (m.beforeWrite s).ram = s.ram := by
  unfold MemMode.beforeWrite; split <;> simp
@[simp] theorem MemMode.beforeWrite_cart (m : MemMode) (s : State) : (m.beforeWrite s).cart = s.cart := by
  unfold MemMode.beforeWrite; split <;> simp
@[simp] theorem MemMode.beforeWrite_pc (m : MemMode) (s : State) : (m.beforeWrite s).pc = s.pc + BitVec.ofNat 16 m.mode.length := by
  unfold MemMode.beforeWrite; split <;> simp

theorem MemMode.beforeRead_cycles (m : MemMode) (s : State) :
    (m.beforeRead s).cycles = s.cycles + m.addressCycles + (if m.crossed s then 1 else 0) := by
  unfold MemMode.beforeRead; split <;> simp [*]

theorem MemMode.beforeWrite_cycles (m : MemMode) (s : State) :
    (m.beforeWrite s).cycles = s.cycles + m.addressCycles + (if m.indexesWord then 1 else 0) := by
  unfold MemMode.beforeWrite; split <;> simp [*]

@[simp] theorem MemMode.beforeRead_peek (m : MemMode) (s : State) (a : Word) : (m.beforeRead s).peek a = s.peek a :=
  State.peek_congr (by simp) (by simp) a

@[simp] theorem MemMode.beforeWrite_peek (m : MemMode) (s : State) (a : Word) : (m.beforeWrite s).peek a = s.peek a :=
  State.peek_congr (by simp) (by simp) a

@[simp] theorem MemMode.beforeRead_cellAt (m : MemMode) (s : State) (a : Word) : (m.beforeRead s).cellAt a = s.cellAt a :=
  State.cellAt_congr (by simp) a

@[simp] theorem MemMode.beforeWrite_cellAt (m : MemMode) (s : State) (a : Word) : (m.beforeWrite s).cellAt a = s.cellAt a :=
  State.cellAt_congr (by simp) a

/-- The operand byte of a cell that is the block's own is the byte memory holds there. -/
theorem MemMode.operandRead_of_peek {m : MemMode} {s : State} {v : Byte} (h : s.peek (m.ea s) = some v) :
    m.operandRead s = v :=
  State.readValue_of_peek (by simpa using h)

/-- The same of the old value of a Read-Modify-Write instruction. -/
theorem MemMode.operandRmw_of_peek {m : MemMode} {s : State} {v : Byte} (h : s.peek (m.ea s) = some v) :
    m.operandRmw s = v :=
  State.readValue_of_peek (by simpa using h)

@[simp] theorem MemMode.rmwAccesses_a (m : MemMode) (v : Byte) (s : State) : (m.rmwAccesses v s).a = s.a := by
  simp [MemMode.rmwAccesses]
@[simp] theorem MemMode.rmwAccesses_x (m : MemMode) (v : Byte) (s : State) : (m.rmwAccesses v s).x = s.x := by
  simp [MemMode.rmwAccesses]
@[simp] theorem MemMode.rmwAccesses_y (m : MemMode) (v : Byte) (s : State) : (m.rmwAccesses v s).y = s.y := by
  simp [MemMode.rmwAccesses]
@[simp] theorem MemMode.rmwAccesses_sp (m : MemMode) (v : Byte) (s : State) : (m.rmwAccesses v s).sp = s.sp := by
  simp [MemMode.rmwAccesses]
@[simp] theorem MemMode.rmwAccesses_flags (m : MemMode) (v : Byte) (s : State) : (m.rmwAccesses v s).flags = s.flags := by
  simp [MemMode.rmwAccesses]
@[simp] theorem MemMode.rmwAccesses_ic (m : MemMode) (v : Byte) (s : State) : (m.rmwAccesses v s).ic = s.ic := by
  simp [MemMode.rmwAccesses]
@[simp] theorem MemMode.rmwAccesses_nmiPending (m : MemMode) (v : Byte) (s : State) : (m.rmwAccesses v s).nmiPending = s.nmiPending := by
  simp [MemMode.rmwAccesses]
@[simp] theorem MemMode.rmwAccesses_irqLine (m : MemMode) (v : Byte) (s : State) : (m.rmwAccesses v s).irqLine = s.irqLine := by
  simp [MemMode.rmwAccesses]
@[simp] theorem MemMode.rmwAccesses_resetPending (m : MemMode) (v : Byte) (s : State) : (m.rmwAccesses v s).resetPending = s.resetPending := by
  simp [MemMode.rmwAccesses]
@[simp] theorem MemMode.rmwAccesses_halted (m : MemMode) (v : Byte) (s : State) : (m.rmwAccesses v s).halted = s.halted := by
  simp [MemMode.rmwAccesses]
@[simp] theorem MemMode.rmwAccesses_pc (m : MemMode) (v : Byte) (s : State) : (m.rmwAccesses v s).pc = s.pc + BitVec.ofNat 16 m.mode.length := by
  simp [MemMode.rmwAccesses]

theorem MemMode.rmwAccesses_cycles (m : MemMode) (v : Byte) (s : State) :
    (m.rmwAccesses v s).cycles = s.cycles + m.addressCycles + (if m.indexesWord then 1 else 0) + 3 := by
  simp [MemMode.rmwAccesses, MemMode.beforeWrite_cycles]

/-- What the accesses of a Read-Modify-Write instruction leave in memory: the new value at the effective address. -/
theorem MemMode.memoryAfter_rmwAccesses (m : MemMode) (v : Byte) (s : State) :
    MemoryAfter s (m.rmwAccesses v s) [(m.ea s, v)] :=
  memoryAfter_congr (by simp) (by simp) (fun _ => rfl)
    (stored_onWrite_twice ((m.beforeWrite s).onRead (m.ea s)) (m.ea s) (m.operandRmw s) v)

/-- What a Write instruction leaves in memory. -/
theorem MemMode.memoryAfter_write (m : MemMode) (a : Word) (v : Byte) (s : State) :
    MemoryAfter s ((m.beforeWrite s).onWrite a v) [(a, v)] :=
  memoryAfter_congr (by simp) (by simp) (fun _ => rfl) (stored_onWrite (m.beforeWrite s) a v)

end Sys2Proof

namespace Sys2Proof.Machine

/-- What a store instruction does: it always completes, writes one byte, and moves PC to the next instruction. -/
theorem writeInstr_next (m : MemMode) (v : State → Byte) (s : State) :
    ∃ t, writeInstr m v s = .next t ∧
      t.registers = { s.registers with pc := s.pc + BitVec.ofNat 16 m.mode.length } ∧ ControlKept s t ∧
      MemoryAfter s t [(m.ea s, v s)] ∧
      t.cycles = s.cycles + m.addressCycles + (if m.indexesWord then 1 else 0) + 1 :=
  ⟨_, rfl, by simp [State.registers], by simp [ControlKept, LinesKept], m.memoryAfter_write _ _ s,
    by simp [MemMode.beforeWrite_cycles]⟩

/-- What an unstable store does. -/
theorem highAndInstr_next (m : MemMode) (r : State → Byte) (s : State) :
    ∃ t, highAndInstr m r s = .next t ∧
      t.registers = { s.registers with pc := s.pc + BitVec.ofNat 16 m.mode.length } ∧ ControlKept s t ∧
      MemoryAfter s t [(m.highAndEa (r s) s, highAndValue (m.base s) (r s))] ∧
      t.cycles = s.cycles + m.addressCycles + (if m.indexesWord then 1 else 0) + 1 :=
  ⟨_, rfl, by simp [State.registers], by simp [ControlKept, LinesKept], m.memoryAfter_write _ _ s,
    by simp [MemMode.beforeWrite_cycles]⟩

/-- What a Read instruction does before its executor: it reads, changes no memory, and moves PC to the next instruction. -/
theorem readInstr_next (m : MemMode) (exe : Byte → State → State) (s : State) :
    ∃ u, readInstr m exe s = .next (exe (m.operandRead s) u) ∧
      u.registers = { s.registers with pc := s.pc + BitVec.ofNat 16 m.mode.length } ∧ ControlKept s u ∧
      u.ram = s.ram ∧ u.cart = s.cart ∧
      u.cycles = s.cycles + m.addressCycles + (if m.crossed s then 1 else 0) + 1 :=
  ⟨_, rfl, by simp [State.registers], by simp [ControlKept, LinesKept], by simp, by simp,
    by simp [MemMode.beforeRead_cycles]⟩

/-- What an immediate instruction does before its executor. -/
theorem immInstr_next (d : Byte) (exe : Byte → State → State) (s : State) :
    ∃ u, immInstr d exe s = .next (exe d u) ∧
      u.registers = { s.registers with pc := s.pc + 2#16 } ∧ ControlKept s u ∧
      u.ram = s.ram ∧ u.cart = s.cart ∧ u.cycles = s.cycles + 2 :=
  ⟨_, rfl, by simp [State.registers, BitVec.add_assoc], by simp [ControlKept, LinesKept], rfl, rfl, rfl⟩

/-- What a 2-cycle instruction without operand does before its executor. -/
theorem impInstr_next (exe : State → State) (s : State) :
    ∃ u, impInstr exe s = .next (exe u) ∧
      u.registers = { s.registers with pc := s.pc + 1#16 } ∧ ControlKept s u ∧
      u.ram = s.ram ∧ u.cart = s.cart ∧ u.cycles = s.cycles + 2 :=
  ⟨_, rfl, rfl, by simp [ControlKept, LinesKept], rfl, rfl, rfl⟩

/-- What a Read-Modify-Write instruction does before its executor: the new value is stored. -/
theorem rmwInstr_next (m : MemMode) (f : Byte → State → Byte) (exe : Byte → State → State) (s : State) :
    ∃ u, rmwInstr m f exe s = .next (exe (m.operandRmw s) u) ∧
      u.registers = { s.registers with pc := s.pc + BitVec.ofNat 16 m.mode.length } ∧ ControlKept s u ∧
      MemoryAfter s u [(m.ea s, f (m.operandRmw s) s)] ∧
      u.cycles = s.cycles + m.addressCycles + (if m.indexesWord then 1 else 0) + 3 :=
  ⟨_, rfl, by simp [State.registers], by simp [ControlKept, LinesKept], m.memoryAfter_rmwAccesses _ s,
    by simp [MemMode.rmwAccesses_cycles]⟩

/-- What a branch does: it writes PC alone. -/
theorem branchInstr_next (taken : Bool) (d : Byte) (s : State) :
    ∃ t, branchInstr taken d s = .next t ∧
      t.registers = { s.registers with pc := if taken then branchTarget (s.pc + 2#16) d else s.pc + 2#16 } ∧
      ControlKept s t ∧ t.ram = s.ram ∧ t.cart = s.cart ∧
      t.cycles = s.cycles + 2 +
        (if taken then if hi (branchTarget (s.pc + 2#16) d) = hi (s.pc + 2#16) then 1 else 2 else 0) := by
  have h : s.fetchOpcode.onFetch.pc = s.pc + 2#16 := by simp [BitVec.add_assoc]
  unfold branchInstr
  simp only [h]
  split
  · rename_i ht
    have : taken = false := by simpa using ht
    subst this
    exact ⟨_, rfl, by simp [State.registers, BitVec.add_assoc], by simp [ControlKept, LinesKept], by simp, by simp, by simp⟩
  · rename_i ht
    have : taken = true := by simpa using ht
    subst this
    split
    · rename_i hp
      exact ⟨_, rfl, by simp [State.registers], by simp [ControlKept, LinesKept], by simp, by simp, by simp⟩
    · rename_i hp
      exact ⟨_, rfl, by simp [State.registers], by simp [ControlKept, LinesKept], by simp, by simp, by simp⟩

end Sys2Proof.Machine
end

