-- ==== Sys2Proof/Laws/Exec.lean ====
section
/-! SUPPORT. exec by what an instruction's mnemonic does and by its operand: one lemma for each shared form, so that a proof about
many instructions of one shape need not look at each. -/

namespace Sys2Proof.Machine

theorem exec_read_mem {i : Instr} {m : MemMode} {exe : Byte → State → State} (ho : i.operand = .mem m)
    (he : executorOf i.mnemonic = .read exe) (s : State) : exec i s = readInstr m exe s := by
  cases i <;> cases ho <;> cases he <;> rfl

theorem exec_read_imm {i : Instr} {d : Byte} {exe : Byte → State → State} (ho : i.operand = .imm d)
    (he : executorOf i.mnemonic = .read exe) (s : State) : exec i s = immInstr d exe s := by
  cases i <;> cases ho <;> cases he <;> rfl

theorem exec_write {i : Instr} {m : MemMode} {v : State → Byte} (ho : i.operand = .mem m)
    (he : executorOf i.mnemonic = .write v) (s : State) : exec i s = writeInstr m v s := by
  cases i <;> cases ho <;> cases he <;> rfl

theorem exec_highAnd {i : Instr} {m : MemMode} {r : State → Byte} {exe : State → State} (ho : i.operand = .mem m)
    (he : executorOf i.mnemonic = .highAnd r exe) (s : State) :
    exec i s = .next (exe ((m.beforeWrite s).onWrite (m.highAndEa (r s) s) (highAndValue (m.base s) (r s)))) := by
  cases i <;> cases ho <;> cases he <;> rfl

theorem exec_rmw_mem {i : Instr} {m : MemMode} {f : Byte → State → Byte} {exe : Byte → State → State} {acc : State → State}
    (ho : i.operand = .mem m) (he : executorOf i.mnemonic = .rmw f exe acc) (s : State) :
    exec i s = rmwInstr m f exe s := by
  cases i <;> cases ho <;> cases he <;> rfl

theorem exec_rmw_acc {i : Instr} {f : Byte → State → Byte} {exe : Byte → State → State} {acc : State → State}
    (ho : i.operand = .acc) (he : executorOf i.mnemonic = .rmw f exe acc) (s : State) : exec i s = impInstr acc s := by
  cases i <;> cases ho <;> cases he <;> rfl

theorem exec_implied {i : Instr} {exe : State → State} (he : executorOf i.mnemonic = .implied exe) (s : State) :
    exec i s = impInstr exe s := by
  cases i <;> cases he <;> rfl

theorem exec_branch {i : Instr} {taken : State → Bool} {d : Byte} (ho : i.operand = .rel d)
    (he : executorOf i.mnemonic = .branch taken) (s : State) : exec i s = branchInstr (taken s) d s := by
  cases i <;> cases ho <;> cases he <;> rfl

/-- The instructions of group Read have a memory or an immediate operand, but for the NOPs without one. -/
theorem operand_read {i : Instr} {exe : Byte → State → State} (he : executorOf i.mnemonic = .read exe) :
    (∃ m, i.operand = .mem m) ∨ (∃ d, i.operand = .imm d) ∨ (i.mnemonic = .nop ∧ i.operand = .imp) := by
  cases i <;> first
    | exact .inl ⟨_, rfl⟩
    | exact .inr (.inl ⟨_, rfl⟩)
    | exact .inr (.inr ⟨rfl, rfl⟩)
    | cases he

/-- A store has a memory operand. -/
theorem operand_write {i : Instr} {v : State → Byte} (he : executorOf i.mnemonic = .write v) : ∃ m, i.operand = .mem m := by
  cases i <;> first
    | exact ⟨_, rfl⟩
    | cases he

/-- So has an unstable store. -/
theorem operand_highAnd {i : Instr} {r : State → Byte} {exe : State → State} (he : executorOf i.mnemonic = .highAnd r exe) :
    ∃ m, i.operand = .mem m := by
  cases i <;> first
    | exact ⟨_, rfl⟩
    | cases he

/-- A Read-Modify-Write instruction has a memory operand or is a shift of the accumulator. -/
theorem operand_rmw {i : Instr} {f : Byte → State → Byte} {exe : Byte → State → State} {acc : State → State}
    (he : executorOf i.mnemonic = .rmw f exe acc) : (∃ m, i.operand = .mem m) ∨ i.operand = .acc := by
  cases i <;> first
    | exact .inl ⟨_, rfl⟩
    | exact .inr rfl
    | cases he

/-- A branch has an offset. -/
theorem operand_branch {i : Instr} {taken : State → Bool} (he : executorOf i.mnemonic = .branch taken) :
    ∃ d, i.operand = .rel d := by
  cases i <;> first
    | exact ⟨_, rfl⟩
    | cases he

/-- An instruction is as long as its operand's mode says. -/
theorem length_of_mem {i : Instr} {m : MemMode} (ho : i.operand = .mem m) : i.length = m.mode.length := by
  simp [Instr.length, ho, Operand.mode]

end Sys2Proof.Machine
end

