-- ==== Sys2Proof/Laws/Ops.lean ====
section
/-! SUPPORT. What the stack operations, the exception entry and the return from it do. -/

namespace Sys2Proof.Machine

/-- The stack cells of two values of S are the same only if the values are. -/
theorem stackAddr_inj {a b : Byte} (h : stackAddr a = stackAddr b) : a = b := by
  have := congrArg BitVec.toNat h
  rw [toNat_stackAddr, toNat_stackAddr] at this
  exact BitVec.eq_of_toNat_eq (by omega)

theorem sub_one_ne (a : Byte) : a ≠ a - 1#8 := by
  intro h
  have h1 := congrArg BitVec.toNat h
  have := a.isLt
  simp only [BitVec.toNat_sub, BitVec.toNat_ofNat] at h1
  omega

theorem sub_two_ne (a : Byte) : a ≠ a - 1#8 - 1#8 := by
  intro h
  have h1 := congrArg BitVec.toNat h
  have := a.isLt
  simp only [BitVec.toNat_sub, BitVec.toNat_ofNat] at h1
  omega

theorem sub_three (a : Byte) : a - 1#8 - 1#8 - 1#8 = a - 3#8 := by
  apply BitVec.eq_of_toNat_eq
  have := a.isLt
  simp only [BitVec.toNat_sub, BitVec.toNat_ofNat]
  omega

theorem sub_two (a : Byte) : a - 1#8 - 1#8 = a - 2#8 := by
  apply BitVec.eq_of_toNat_eq
  have := a.isLt
  simp only [BitVec.toNat_sub, BitVec.toNat_ofNat]
  omega

theorem add_three (a : Byte) : a + 1#8 + 1#8 + 1#8 = a + 3#8 := by
  rw [BitVec.add_assoc, BitVec.add_assoc]; rfl

theorem add_two (a : Byte) : a + 1#8 + 1#8 = a + 2#8 := by
  rw [BitVec.add_assoc]; rfl

theorem sub_add_cancel_one (a : Byte) : a - 1#8 + 1#8 = a := BitVec.sub_add_cancel a 1#8

/-- A word is the concatenation of its two bytes. -/
@[simp] theorem w16_hi_lo (w : Word) : w16 (hi w) (lo w) = w := by
  apply BitVec.eq_of_toNat_eq
  have := w.isLt
  simp only [w16, hi, lo, BitVec.toNat_append, BitVec.extractLsb'_toNat, BitVec.toNat_setWidth]
  rw [Nat.shiftLeft_eq, Nat.shiftRight_eq_div_pow, Nat.mul_comm, ← Nat.two_pow_add_eq_or_of_lt (i := 8) (by omega)]
  omega

/-- The byte at the stack cell of `S`, as memory holds it. -/
theorem State.readValue_stack_of_ram {s t : State} (h : t.ram = s.ram) (sp : Byte) :
    t.readValue (stackAddr sp) = s.readValue (stackAddr sp) := by
  simp [h]

/-- A pushed byte is read back at its stack cell; every other stack cell is as before. -/
theorem State.stack_push (s : State) (v sp : Byte) :
    (s.push v).readValue (stackAddr sp) = if sp = s.sp then v else s.readValue (stackAddr sp) := by
  simp only [State.readValue_stack, State.push_ram, State.ramAfterWrite_stack]
  split
  · rename_i h
    subst h
    simp
  · rename_i h
    rw [Memory.read_write_other]
    intro e
    exact h (BitVec.eq_of_toNat_eq (by omega))

/-- One push: what it does to memory. -/
theorem memoryAfter_push (s : State) (v : Byte) : MemoryAfter s (s.push v) [(stackAddr s.sp, v)] :=
  memoryAfter_of_eq rfl rfl rfl rfl (stored_onWrite s (stackAddr s.sp) v)

/-- Two pushes: what they do to memory. -/
theorem memoryAfter_push_two (s : State) (v w : Byte) :
    MemoryAfter s ((s.push v).push w) [(stackAddr s.sp, v), (stackAddr (s.sp - 1#8), w)] := by
  have hne : stackAddr (s.sp - 1#8) ≠ stackAddr s.sp := fun h => sub_one_ne s.sp (stackAddr_inj h).symm
  obtain ⟨h1, -⟩ := memoryAfter_push s v
  obtain ⟨h2, -⟩ := memoryAfter_push (s.push v) w
  refine ⟨fun a ha => ?_, ?_⟩
  · rw [h2 a (by simpa using ha (stackAddr (s.sp - 1#8)) (by simp)), h1 a (by simpa using ha (stackAddr s.sp) (by simp))]
  · intro p hp
    simp only [List.mem_cons, List.not_mem_nil, or_false] at hp
    rcases hp with rfl | rfl
    · have := State.stack_push (s.push v) w s.sp
      simp [Stored, sub_one_ne, State.readValue_stack] at this ⊢
      exact this
    · simp [Stored]

/-- Three pushes: what they do to memory. -/
theorem memoryAfter_push_three (s : State) (u v w : Byte) :
    MemoryAfter s (((s.push u).push v).push w)
      [(stackAddr s.sp, u), (stackAddr (s.sp - 1#8), v), (stackAddr (s.sp - 1#8 - 1#8), w)] := by
  obtain ⟨h1, h1'⟩ := memoryAfter_push_two s u v
  obtain ⟨h2, -⟩ := memoryAfter_push ((s.push u).push v) w
  refine ⟨fun a ha => ?_, ?_⟩
  · rw [h2 a (by simpa using ha (stackAddr (s.sp - 1#8 - 1#8)) (by simp)),
      h1 a (fun b hb => ha b (by simp at hb ⊢; exact hb.elim .inl (.inr ∘ .inl)))]
  · intro p hp
    simp only [List.mem_cons, List.not_mem_nil, or_false] at hp
    have key (sp x : Byte) (hsp : sp ≠ s.sp - 1#8 - 1#8)
        (h : ((s.push u).push v).peek (stackAddr sp) = some x) :
        (((s.push u).push v).push w).peek (stackAddr sp) = some x := by
      have := State.stack_push ((s.push u).push v) w sp
      rw [State.peek_stack] at h ⊢
      simp only [State.push_sp, State.readValue_stack] at this
      rw [this]
      split
      · contradiction
      · exact h
    rcases hp with rfl | rfl | rfl
    · have := h1' (stackAddr s.sp, u) (by simp)
      simp only [Stored, State.writable_stack, if_true] at this ⊢
      exact key _ _ (sub_two_ne _) this
    · have := h1' (stackAddr (s.sp - 1#8), v) (by simp)
      simp only [Stored, State.writable_stack, if_true] at this ⊢
      exact key _ _ (sub_one_ne _) this
    · simp [Stored]

/-- The vector addresses are program ROM. -/
theorem State.cellAt_of_ge (s : State) {a : Word} (h : 0x8000 ≤ a.toNat) :
    s.cellAt a = .cart (.prgRom (a.toNat &&& (s.cart.prgRomSize - 1))) := by
  have hm : mirror a = a := by
    unfold mirror
    rw [if_neg (by omega), if_neg (by omega)]
  simp only [State.cellAt, busCell, hm, cartCell]
  rw [if_neg (by omega), if_neg (by omega), if_neg (by omega), if_pos h]

/-- A read of program ROM depends on the ROM alone. -/
theorem State.readValue_of_ge {s t : State} (hc : t.cart = s.cart) {a : Word} (h : 0x8000 ≤ a.toNat) :
    t.readValue a = s.readValue a := by
  simp [State.readValue, State.cellAt_of_ge _ h, hc, cpuRead]

/-- TAKING AN EXCEPTION, said once: the registers, the three stack bytes, and nothing else. -/
theorem State.enterVector_eq (s : State) (b : Bool) {vec : Word} (h : 0x8000 ≤ vec.toNat) (h' : 0x8000 ≤ (vec + 1#16).toNat) :
    (s.enterVector b vec).registers =
        { s.registers with
          sp := s.sp - 3#8, pc := w16 (s.readValue (vec + 1#16)) (s.readValue vec), flags := { s.flags with i := true } } ∧
      ControlKept s (s.enterVector b vec) ∧ (s.enterVector b vec).cart = s.cart ∧
      (s.enterVector b vec).cycles = s.cycles + 5 ∧
      MemoryAfter s (s.enterVector b vec)
        [(stackAddr s.sp, hi s.pc), (stackAddr (s.sp - 1#8), lo s.pc), (stackAddr (s.sp - 1#8 - 1#8), packP s.flags b)] := by
  refine ⟨?_, ?_, ?_, ?_, ?_⟩
  · have e (t : State) (ht : t.cart = s.cart) : t.readValue vec = s.readValue vec := State.readValue_of_ge ht h
    have e' (t : State) (ht : t.cart = s.cart) : t.readValue (vec + 1#16) = s.readValue (vec + 1#16) :=
      State.readValue_of_ge ht h'
    simp [State.enterVector, State.registers, sub_three, e]
    exact congrArg (w16 · _) (e' _ (by simp))
  · simp [State.enterVector, ControlKept, LinesKept]
  · simp [State.enterVector]
  · simp [State.enterVector]
  · exact memoryAfter_of_eq rfl rfl (by simp [State.enterVector]) (by simp [State.enterVector]) (memoryAfter_push_three s (hi s.pc) (lo s.pc) (packP s.flags b))

/-- The vectors are in program ROM. -/
theorem IntKind.vector_ge (k : IntKind) : 0x8000 ≤ k.vector.toNat ∧ 0x8000 ≤ (k.vector + 1#16).toNat := by
  cases k <;> decide

/-- The interrupt sequence, said once. -/
theorem State.interruptSequence_eq (s : State) (k : IntKind) :
    (s.interruptSequence k).registers =
        { s.registers with
          sp := s.sp - 3#8, pc := w16 (s.readValue (k.vector + 1#16)) (s.readValue k.vector)
          flags := { s.flags with i := true } } ∧
      ControlKept s (s.interruptSequence k) ∧ (s.interruptSequence k).cart = s.cart ∧
      (s.interruptSequence k).cycles = s.cycles + 7 ∧
      MemoryAfter s (s.interruptSequence k)
        [(stackAddr s.sp, hi s.pc), (stackAddr (s.sp - 1#8), lo s.pc), (stackAddr (s.sp - 1#8 - 1#8), packP s.flags false)] := by
  obtain ⟨hv, hv'⟩ := IntKind.vector_ge k
  obtain ⟨h1, h2, h3, h4, h5⟩ := State.enterVector_eq ((s.beginSequence.onRead s.pc).onRead s.pc) false hv hv'
  refine ⟨?_, h2, h3, h4, ?_⟩
  · have e := State.readValue_of_ge (s := s) (t := (s.beginSequence.onRead s.pc).onRead s.pc) rfl hv
    have e' := State.readValue_of_ge (s := s) (t := (s.beginSequence.onRead s.pc).onRead s.pc) rfl hv'
    simp only [e, e'] at h1
    exact h1
  · exact memoryAfter_of_eq rfl rfl rfl rfl h5

/-- RETURN FROM AN EXCEPTION, said once: the flags and PC are pulled, S goes up by 3, memory is as before. -/
theorem State.returnFromVector_eq (s : State) :
    s.returnFromVector.registers =
        { s.registers with
          sp := s.sp + 3#8
          pc := w16 (s.readValue (stackAddr (s.sp + 3#8))) (s.readValue (stackAddr (s.sp + 2#8)))
          flags := unpackP (s.readValue (stackAddr (s.sp + 1#8))) } ∧
      ControlKept s s.returnFromVector ∧ s.returnFromVector.ram = s.ram ∧ s.returnFromVector.cart = s.cart ∧
      s.returnFromVector.cycles = s.cycles + 3 := by
  refine ⟨?_, ?_, ?_, ?_, ?_⟩
  · simp only [State.returnFromVector, State.registers, State.pullValue]
    congr 1
    · exact add_three s.sp
    · simp [add_two]
  · simp [State.returnFromVector, ControlKept, LinesKept]
  · simp [State.returnFromVector]
  · simp [State.returnFromVector]
  · simp [State.returnFromVector]

end Sys2Proof.Machine
end

