-- ==== Sys2Proof/Laws/PerInstr.lean ====
section
/-! SUPPORT. What holds of every instruction as syntax, one lemma for each constructor: its opcode byte has a row of the opcode
table with its mnemonic, its mode and its length (30_encoding.md R110 to R114). -/

/-- The opcode table's row for the instruction's opcode byte has its mnemonic, its mode and its length. -/
def Sys2Proof.Laws.TableRow.Statement (i : Sys2Proof.Instr) : Prop :=
  (Sys2Proof.opcodeRow i.opcode).map (fun row => (row.mnemonic, row.mode, row.mode.length)) =
    some (i.mnemonic, i.operand.mode, (Sys2Proof.encode i).length)

/-- The statement from the row of a byte written out. -/
theorem Sys2Proof.Laws.TableRow.of {i : Sys2Proof.Instr} (op : Sys2Proof.Byte) (m : Sys2Proof.Mnemonic) (mode : Sys2Proof.Mode)
    (n : Nat) (ho : i.opcode = op) (hm : i.mnemonic = m) (hd : i.operand.mode = mode) (hn : (Sys2Proof.encode i).length = n)
    (h : (Sys2Proof.opcodeRow op).map (fun row => (row.mnemonic, row.mode, row.mode.length)) = some (m, mode, n)) :
    Statement i := by
  unfold Statement
  rw [ho, hm, hd, hn, h]

theorem Sys2Proof.Laws.TableRow.brk : Statement .brk :=
  of 0x00#8 .brk .imp 1 rfl rfl rfl rfl (by decide)

theorem Sys2Proof.Laws.TableRow.oraIzx (z : Sys2Proof.Byte) : Statement (.oraIzx z) :=
  of 0x01#8 .ora .izx 2 rfl rfl rfl rfl (by decide)

theorem Sys2Proof.Laws.TableRow.jam (k : Fin 12) : Statement (.jam k) :=
  match k with
  | 0 => of 0x02#8 .jam .imp 1 rfl rfl rfl rfl (by decide)
  | 1 => of 0x12#8 .jam .imp 1 rfl rfl rfl rfl (by decide)
  | 2 => of 0x22#8 .jam .imp 1 rfl rfl rfl rfl (by decide)
  | 3 => of 0x32#8 .jam .imp 1 rfl rfl rfl rfl (by decide)
  | 4 => of 0x42#8 .jam .imp 1 rfl rfl rfl rfl (by decide)
  | 5 => of 0x52#8 .jam .imp 1 rfl rfl rfl rfl (by decide)
  | 6 => of 0x62#8 .jam .imp 1 rfl rfl rfl rfl (by decide)
  | 7 => of 0x72#8 .jam .imp 1 rfl rfl rfl rfl (by decide)
  | 8 => of 0x92#8 .jam .imp 1 rfl rfl rfl rfl (by decide)
  | 9 => of 0xB2#8 .jam .imp 1 rfl rfl rfl rfl (by decide)
  | 10 => of 0xD2#8 .jam .imp 1 rfl rfl rfl rfl (by decide)
  | 11 => of 0xF2#8 .jam .imp 1 rfl rfl rfl rfl (by decide)

theorem Sys2Proof.Laws.TableRow.sloIzx (z : Sys2Proof.Byte) : Statement (.sloIzx z) :=
  of 0x03#8 .slo .izx 2 rfl rfl rfl rfl (by decide)

theorem Sys2Proof.Laws.TableRow.nopZp (k : Fin 3) (z : Sys2Proof.Byte) : Statement (.nopZp k z) :=
  match k with
  | 0 => of 0x04#8 .nop .zp 2 rfl rfl rfl rfl (by decide)
  | 1 => of 0x44#8 .nop .zp 2 rfl rfl rfl rfl (by decide)
  | 2 => of 0x64#8 .nop .zp 2 rfl rfl rfl rfl (by decide)

theorem Sys2Proof.Laws.TableRow.oraZp (z : Sys2Proof.Byte) : Statement (.oraZp z) :=
  of 0x05#8 .ora .zp 2 rfl rfl rfl rfl (by decide)

theorem Sys2Proof.Laws.TableRow.aslZp (z : Sys2Proof.Byte) : Statement (.aslZp z) :=
  of 0x06#8 .asl .zp 2 rfl rfl rfl rfl (by decide)

theorem Sys2Proof.Laws.TableRow.sloZp (z : Sys2Proof.Byte) : Statement (.sloZp z) :=
  of 0x07#8 .slo .zp 2 rfl rfl rfl rfl (by decide)

theorem Sys2Proof.Laws.TableRow.php : Statement .php :=
  of 0x08#8 .php .imp 1 rfl rfl rfl rfl (by decide)

theorem Sys2Proof.Laws.TableRow.oraImm (d : Sys2Proof.Byte) : Statement (.oraImm d) :=
  of 0x09#8 .ora .imm 2 rfl rfl rfl rfl (by decide)

theorem Sys2Proof.Laws.TableRow.aslAcc : Statement .aslAcc :=
  of 0x0A#8 .asl .acc 1 rfl rfl rfl rfl (by decide)

theorem Sys2Proof.Laws.TableRow.anc (k : Fin 2) (d : Sys2Proof.Byte) : Statement (.anc k d) :=
  match k with
  | 0 => of 0x0B#8 .anc .imm 2 rfl rfl rfl rfl (by decide)
  | 1 => of 0x2B#8 .anc .imm 2 rfl rfl rfl rfl (by decide)

theorem Sys2Proof.Laws.TableRow.nopAbs (a : Sys2Proof.Word) : Statement (.nopAbs a) :=
  of 0x0C#8 .nop .abs 3 rfl rfl rfl rfl (by decide)

theorem Sys2Proof.Laws.TableRow.oraAbs (a : Sys2Proof.Word) : Statement (.oraAbs a) :=
  of 0x0D#8 .ora .abs 3 rfl rfl rfl rfl (by decide)

theorem Sys2Proof.Laws.TableRow.aslAbs (a : Sys2Proof.Word) : Statement (.aslAbs a) :=
  of 0x0E#8 .asl .abs 3 rfl rfl rfl rfl (by decide)

theorem Sys2Proof.Laws.TableRow.sloAbs (a : Sys2Proof.Word) : Statement (.sloAbs a) :=
  of 0x0F#8 .slo .abs 3 rfl rfl rfl rfl (by decide)

theorem Sys2Proof.Laws.TableRow.bpl (d : Sys2Proof.Byte) : Statement (.bpl d) :=
  of 0x10#8 .bpl .rel 2 rfl rfl rfl rfl (by decide)

theorem Sys2Proof.Laws.TableRow.oraIzy (z : Sys2Proof.Byte) : Statement (.oraIzy z) :=
  of 0x11#8 .ora .izy 2 rfl rfl rfl rfl (by decide)

theorem Sys2Proof.Laws.TableRow.sloIzy (z : Sys2Proof.Byte) : Statement (.sloIzy z) :=
  of 0x13#8 .slo .izy 2 rfl rfl rfl rfl (by decide)

theorem Sys2Proof.Laws.TableRow.nopZpx (k : Fin 6) (z : Sys2Proof.Byte) : Statement (.nopZpx k z) :=
  match k with
  | 0 => of 0x14#8 .nop .zpx 2 rfl rfl rfl rfl (by decide)
  | 1 => of 0x34#8 .nop .zpx 2 rfl rfl rfl rfl (by decide)
  | 2 => of 0x54#8 .nop .zpx 2 rfl rfl rfl rfl (by decide)
  | 3 => of 0x74#8 .nop .zpx 2 rfl rfl rfl rfl (by decide)
  | 4 => of 0xD4#8 .nop .zpx 2 rfl rfl rfl rfl (by decide)
  | 5 => of 0xF4#8 .nop .zpx 2 rfl rfl rfl rfl (by decide)

theorem Sys2Proof.Laws.TableRow.oraZpx (z : Sys2Proof.Byte) : Statement (.oraZpx z) :=
  of 0x15#8 .ora .zpx 2 rfl rfl rfl rfl (by decide)

theorem Sys2Proof.Laws.TableRow.aslZpx (z : Sys2Proof.Byte) : Statement (.aslZpx z) :=
  of 0x16#8 .asl .zpx 2 rfl rfl rfl rfl (by decide)

theorem Sys2Proof.Laws.TableRow.sloZpx (z : Sys2Proof.Byte) : Statement (.sloZpx z) :=
  of 0x17#8 .slo .zpx 2 rfl rfl rfl rfl (by decide)

theorem Sys2Proof.Laws.TableRow.clc : Statement .clc :=
  of 0x18#8 .clc .imp 1 rfl rfl rfl rfl (by decide)

theorem Sys2Proof.Laws.TableRow.oraAby (a : Sys2Proof.Word) : Statement (.oraAby a) :=
  of 0x19#8 .ora .aby 3 rfl rfl rfl rfl (by decide)

theorem Sys2Proof.Laws.TableRow.nopImp (k : Fin 6) : Statement (.nopImp k) :=
  match k with
  | 0 => of 0x1A#8 .nop .imp 1 rfl rfl rfl rfl (by decide)
  | 1 => of 0x3A#8 .nop .imp 1 rfl rfl rfl rfl (by decide)
  | 2 => of 0x5A#8 .nop .imp 1 rfl rfl rfl rfl (by decide)
  | 3 => of 0x7A#8 .nop .imp 1 rfl rfl rfl rfl (by decide)
  | 4 => of 0xDA#8 .nop .imp 1 rfl rfl rfl rfl (by decide)
  | 5 => of 0xFA#8 .nop .imp 1 rfl rfl rfl rfl (by decide)

theorem Sys2Proof.Laws.TableRow.sloAby (a : Sys2Proof.Word) : Statement (.sloAby a) :=
  of 0x1B#8 .slo .aby 3 rfl rfl rfl rfl (by decide)

theorem Sys2Proof.Laws.TableRow.nopAbx (k : Fin 6) (a : Sys2Proof.Word) : Statement (.nopAbx k a) :=
  match k with
  | 0 => of 0x1C#8 .nop .abx 3 rfl rfl rfl rfl (by decide)
  | 1 => of 0x3C#8 .nop .abx 3 rfl rfl rfl rfl (by decide)
  | 2 => of 0x5C#8 .nop .abx 3 rfl rfl rfl rfl (by decide)
  | 3 => of 0x7C#8 .nop .abx 3 rfl rfl rfl rfl (by decide)
  | 4 => of 0xDC#8 .nop .abx 3 rfl rfl rfl rfl (by decide)
  | 5 => of 0xFC#8 .nop .abx 3 rfl rfl rfl rfl (by decide)

theorem Sys2Proof.Laws.TableRow.oraAbx (a : Sys2Proof.Word) : Statement (.oraAbx a) :=
  of 0x1D#8 .ora .abx 3 rfl rfl rfl rfl (by decide)

theorem Sys2Proof.Laws.TableRow.aslAbx (a : Sys2Proof.Word) : Statement (.aslAbx a) :=
  of 0x1E#8 .asl .abx 3 rfl rfl rfl rfl (by decide)

theorem Sys2Proof.Laws.TableRow.sloAbx (a : Sys2Proof.Word) : Statement (.sloAbx a) :=
  of 0x1F#8 .slo .abx 3 rfl rfl rfl rfl (by decide)

theorem Sys2Proof.Laws.TableRow.jsr (a : Sys2Proof.Word) : Statement (.jsr a) :=
  of 0x20#8 .jsr .abs 3 rfl rfl rfl rfl (by decide)

theorem Sys2Proof.Laws.TableRow.andIzx (z : Sys2Proof.Byte) : Statement (.andIzx z) :=
  of 0x21#8 .and .izx 2 rfl rfl rfl rfl (by decide)

theorem Sys2Proof.Laws.TableRow.rlaIzx (z : Sys2Proof.Byte) : Statement (.rlaIzx z) :=
  of 0x23#8 .rla .izx 2 rfl rfl rfl rfl (by decide)

theorem Sys2Proof.Laws.TableRow.bitZp (z : Sys2Proof.Byte) : Statement (.bitZp z) :=
  of 0x24#8 .bit .zp 2 rfl rfl rfl rfl (by decide)

theorem Sys2Proof.Laws.TableRow.andZp (z : Sys2Proof.Byte) : Statement (.andZp z) :=
  of 0x25#8 .and .zp 2 rfl rfl rfl rfl (by decide)

theorem Sys2Proof.Laws.TableRow.rolZp (z : Sys2Proof.Byte) : Statement (.rolZp z) :=
  of 0x26#8 .rol .zp 2 rfl rfl rfl rfl (by decide)

theorem Sys2Proof.Laws.TableRow.rlaZp (z : Sys2Proof.Byte) : Statement (.rlaZp z) :=
  of 0x27#8 .rla .zp 2 rfl rfl rfl rfl (by decide)

theorem Sys2Proof.Laws.TableRow.plp : Statement .plp :=
  of 0x28#8 .plp .imp 1 rfl rfl rfl rfl (by decide)

theorem Sys2Proof.Laws.TableRow.andImm (d : Sys2Proof.Byte) : Statement (.andImm d) :=
  of 0x29#8 .and .imm 2 rfl rfl rfl rfl (by decide)

theorem Sys2Proof.Laws.TableRow.rolAcc : Statement .rolAcc :=
  of 0x2A#8 .rol .acc 1 rfl rfl rfl rfl (by decide)

theorem Sys2Proof.Laws.TableRow.bitAbs (a : Sys2Proof.Word) : Statement (.bitAbs a) :=
  of 0x2C#8 .bit .abs 3 rfl rfl rfl rfl (by decide)

theorem Sys2Proof.Laws.TableRow.andAbs (a : Sys2Proof.Word) : Statement (.andAbs a) :=
  of 0x2D#8 .and .abs 3 rfl rfl rfl rfl (by decide)

theorem Sys2Proof.Laws.TableRow.rolAbs (a : Sys2Proof.Word) : Statement (.rolAbs a) :=
  of 0x2E#8 .rol .abs 3 rfl rfl rfl rfl (by decide)

theorem Sys2Proof.Laws.TableRow.rlaAbs (a : Sys2Proof.Word) : Statement (.rlaAbs a) :=
  of 0x2F#8 .rla .abs 3 rfl rfl rfl rfl (by decide)

theorem Sys2Proof.Laws.TableRow.bmi (d : Sys2Proof.Byte) : Statement (.bmi d) :=
  of 0x30#8 .bmi .rel 2 rfl rfl rfl rfl (by decide)

theorem Sys2Proof.Laws.TableRow.andIzy (z : Sys2Proof.Byte) : Statement (.andIzy z) :=
  of 0x31#8 .and .izy 2 rfl rfl rfl rfl (by decide)

theorem Sys2Proof.Laws.TableRow.rlaIzy (z : Sys2Proof.Byte) : Statement (.rlaIzy z) :=
  of 0x33#8 .rla .izy 2 rfl rfl rfl rfl (by decide)

theorem Sys2Proof.Laws.TableRow.andZpx (z : Sys2Proof.Byte) : Statement (.andZpx z) :=
  of 0x35#8 .and .zpx 2 rfl rfl rfl rfl (by decide)

theorem Sys2Proof.Laws.TableRow.rolZpx (z : Sys2Proof.Byte) : Statement (.rolZpx z) :=
  of 0x36#8 .rol .zpx 2 rfl rfl rfl rfl (by decide)

theorem Sys2Proof.Laws.TableRow.rlaZpx (z : Sys2Proof.Byte) : Statement (.rlaZpx z) :=
  of 0x37#8 .rla .zpx 2 rfl rfl rfl rfl (by decide)

theorem Sys2Proof.Laws.TableRow.sec : Statement .sec :=
  of 0x38#8 .sec .imp 1 rfl rfl rfl rfl (by decide)

theorem Sys2Proof.Laws.TableRow.andAby (a : Sys2Proof.Word) : Statement (.andAby a) :=
  of 0x39#8 .and .aby 3 rfl rfl rfl rfl (by decide)

theorem Sys2Proof.Laws.TableRow.rlaAby (a : Sys2Proof.Word) : Statement (.rlaAby a) :=
  of 0x3B#8 .rla .aby 3 rfl rfl rfl rfl (by decide)

theorem Sys2Proof.Laws.TableRow.andAbx (a : Sys2Proof.Word) : Statement (.andAbx a) :=
  of 0x3D#8 .and .abx 3 rfl rfl rfl rfl (by decide)

theorem Sys2Proof.Laws.TableRow.rolAbx (a : Sys2Proof.Word) : Statement (.rolAbx a) :=
  of 0x3E#8 .rol .abx 3 rfl rfl rfl rfl (by decide)

theorem Sys2Proof.Laws.TableRow.rlaAbx (a : Sys2Proof.Word) : Statement (.rlaAbx a) :=
  of 0x3F#8 .rla .abx 3 rfl rfl rfl rfl (by decide)

theorem Sys2Proof.Laws.TableRow.rti : Statement .rti :=
  of 0x40#8 .rti .imp 1 rfl rfl rfl rfl (by decide)

theorem Sys2Proof.Laws.TableRow.eorIzx (z : Sys2Proof.Byte) : Statement (.eorIzx z) :=
  of 0x41#8 .eor .izx 2 rfl rfl rfl rfl (by decide)

theorem Sys2Proof.Laws.TableRow.sreIzx (z : Sys2Proof.Byte) : Statement (.sreIzx z) :=
  of 0x43#8 .sre .izx 2 rfl rfl rfl rfl (by decide)

theorem Sys2Proof.Laws.TableRow.eorZp (z : Sys2Proof.Byte) : Statement (.eorZp z) :=
  of 0x45#8 .eor .zp 2 rfl rfl rfl rfl (by decide)

theorem Sys2Proof.Laws.TableRow.lsrZp (z : Sys2Proof.Byte) : Statement (.lsrZp z) :=
  of 0x46#8 .lsr .zp 2 rfl rfl rfl rfl (by decide)

theorem Sys2Proof.Laws.TableRow.sreZp (z : Sys2Proof.Byte) : Statement (.sreZp z) :=
  of 0x47#8 .sre .zp 2 rfl rfl rfl rfl (by decide)

theorem Sys2Proof.Laws.TableRow.pha : Statement .pha :=
  of 0x48#8 .pha .imp 1 rfl rfl rfl rfl (by decide)

theorem Sys2Proof.Laws.TableRow.eorImm (d : Sys2Proof.Byte) : Statement (.eorImm d) :=
  of 0x49#8 .eor .imm 2 rfl rfl rfl rfl (by decide)

theorem Sys2Proof.Laws.TableRow.lsrAcc : Statement .lsrAcc :=
  of 0x4A#8 .lsr .acc 1 rfl rfl rfl rfl (by decide)

theorem Sys2Proof.Laws.TableRow.alr (d : Sys2Proof.Byte) : Statement (.alr d) :=
  of 0x4B#8 .alr .imm 2 rfl rfl rfl rfl (by decide)

theorem Sys2Proof.Laws.TableRow.jmpAbs (a : Sys2Proof.Word) : Statement (.jmpAbs a) :=
  of 0x4C#8 .jmp .abs 3 rfl rfl rfl rfl (by decide)

theorem Sys2Proof.Laws.TableRow.eorAbs (a : Sys2Proof.Word) : Statement (.eorAbs a) :=
  of 0x4D#8 .eor .abs 3 rfl rfl rfl rfl (by decide)

theorem Sys2Proof.Laws.TableRow.lsrAbs (a : Sys2Proof.Word) : Statement (.lsrAbs a) :=
  of 0x4E#8 .lsr .abs 3 rfl rfl rfl rfl (by decide)

theorem Sys2Proof.Laws.TableRow.sreAbs (a : Sys2Proof.Word) : Statement (.sreAbs a) :=
  of 0x4F#8 .sre .abs 3 rfl rfl rfl rfl (by decide)

theorem Sys2Proof.Laws.TableRow.bvc (d : Sys2Proof.Byte) : Statement (.bvc d) :=
  of 0x50#8 .bvc .rel 2 rfl rfl rfl rfl (by decide)

theorem Sys2Proof.Laws.TableRow.eorIzy (z : Sys2Proof.Byte) : Statement (.eorIzy z) :=
  of 0x51#8 .eor .izy 2 rfl rfl rfl rfl (by decide)

theorem Sys2Proof.Laws.TableRow.sreIzy (z : Sys2Proof.Byte) : Statement (.sreIzy z) :=
  of 0x53#8 .sre .izy 2 rfl rfl rfl rfl (by decide)

theorem Sys2Proof.Laws.TableRow.eorZpx (z : Sys2Proof.Byte) : Statement (.eorZpx z) :=
  of 0x55#8 .eor .zpx 2 rfl rfl rfl rfl (by decide)

theorem Sys2Proof.Laws.TableRow.lsrZpx (z : Sys2Proof.Byte) : Statement (.lsrZpx z) :=
  of 0x56#8 .lsr .zpx 2 rfl rfl rfl rfl (by decide)

theorem Sys2Proof.Laws.TableRow.sreZpx (z : Sys2Proof.Byte) : Statement (.sreZpx z) :=
  of 0x57#8 .sre .zpx 2 rfl rfl rfl rfl (by decide)

theorem Sys2Proof.Laws.TableRow.cli : Statement .cli :=
  of 0x58#8 .cli .imp 1 rfl rfl rfl rfl (by decide)

theorem Sys2Proof.Laws.TableRow.eorAby (a : Sys2Proof.Word) : Statement (.eorAby a) :=
  of 0x59#8 .eor .aby 3 rfl rfl rfl rfl (by decide)

theorem Sys2Proof.Laws.TableRow.sreAby (a : Sys2Proof.Word) : Statement (.sreAby a) :=
  of 0x5B#8 .sre .aby 3 rfl rfl rfl rfl (by decide)

theorem Sys2Proof.Laws.TableRow.eorAbx (a : Sys2Proof.Word) : Statement (.eorAbx a) :=
  of 0x5D#8 .eor .abx 3 rfl rfl rfl rfl (by decide)

theorem Sys2Proof.Laws.TableRow.lsrAbx (a : Sys2Proof.Word) : Statement (.lsrAbx a) :=
  of 0x5E#8 .lsr .abx 3 rfl rfl rfl rfl (by decide)

theorem Sys2Proof.Laws.TableRow.sreAbx (a : Sys2Proof.Word) : Statement (.sreAbx a) :=
  of 0x5F#8 .sre .abx 3 rfl rfl rfl rfl (by decide)

theorem Sys2Proof.Laws.TableRow.rts : Statement .rts :=
  of 0x60#8 .rts .imp 1 rfl rfl rfl rfl (by decide)

theorem Sys2Proof.Laws.TableRow.adcIzx (z : Sys2Proof.Byte) : Statement (.adcIzx z) :=
  of 0x61#8 .adc .izx 2 rfl rfl rfl rfl (by decide)

theorem Sys2Proof.Laws.TableRow.rraIzx (z : Sys2Proof.Byte) : Statement (.rraIzx z) :=
  of 0x63#8 .rra .izx 2 rfl rfl rfl rfl (by decide)

theorem Sys2Proof.Laws.TableRow.adcZp (z : Sys2Proof.Byte) : Statement (.adcZp z) :=
  of 0x65#8 .adc .zp 2 rfl rfl rfl rfl (by decide)

theorem Sys2Proof.Laws.TableRow.rorZp (z : Sys2Proof.Byte) : Statement (.rorZp z) :=
  of 0x66#8 .ror .zp 2 rfl rfl rfl rfl (by decide)

theorem Sys2Proof.Laws.TableRow.rraZp (z : Sys2Proof.Byte) : Statement (.rraZp z) :=
  of 0x67#8 .rra .zp 2 rfl rfl rfl rfl (by decide)

theorem Sys2Proof.Laws.TableRow.pla : Statement .pla :=
  of 0x68#8 .pla .imp 1 rfl rfl rfl rfl (by decide)

theorem Sys2Proof.Laws.TableRow.adcImm (d : Sys2Proof.Byte) : Statement (.adcImm d) :=
  of 0x69#8 .adc .imm 2 rfl rfl rfl rfl (by decide)

theorem Sys2Proof.Laws.TableRow.rorAcc : Statement .rorAcc :=
  of 0x6A#8 .ror .acc 1 rfl rfl rfl rfl (by decide)

theorem Sys2Proof.Laws.TableRow.arr (d : Sys2Proof.Byte) : Statement (.arr d) :=
  of 0x6B#8 .arr .imm 2 rfl rfl rfl rfl (by decide)

theorem Sys2Proof.Laws.TableRow.jmpInd (p : Sys2Proof.Word) : Statement (.jmpInd p) :=
  of 0x6C#8 .jmp .ind 3 rfl rfl rfl rfl (by decide)

theorem Sys2Proof.Laws.TableRow.adcAbs (a : Sys2Proof.Word) : Statement (.adcAbs a) :=
  of 0x6D#8 .adc .abs 3 rfl rfl rfl rfl (by decide)

theorem Sys2Proof.Laws.TableRow.rorAbs (a : Sys2Proof.Word) : Statement (.rorAbs a) :=
  of 0x6E#8 .ror .abs 3 rfl rfl rfl rfl (by decide)

theorem Sys2Proof.Laws.TableRow.rraAbs (a : Sys2Proof.Word) : Statement (.rraAbs a) :=
  of 0x6F#8 .rra .abs 3 rfl rfl rfl rfl (by decide)

theorem Sys2Proof.Laws.TableRow.bvs (d : Sys2Proof.Byte) : Statement (.bvs d) :=
  of 0x70#8 .bvs .rel 2 rfl rfl rfl rfl (by decide)

theorem Sys2Proof.Laws.TableRow.adcIzy (z : Sys2Proof.Byte) : Statement (.adcIzy z) :=
  of 0x71#8 .adc .izy 2 rfl rfl rfl rfl (by decide)

theorem Sys2Proof.Laws.TableRow.rraIzy (z : Sys2Proof.Byte) : Statement (.rraIzy z) :=
  of 0x73#8 .rra .izy 2 rfl rfl rfl rfl (by decide)

theorem Sys2Proof.Laws.TableRow.adcZpx (z : Sys2Proof.Byte) : Statement (.adcZpx z) :=
  of 0x75#8 .adc .zpx 2 rfl rfl rfl rfl (by decide)

theorem Sys2Proof.Laws.TableRow.rorZpx (z : Sys2Proof.Byte) : Statement (.rorZpx z) :=
  of 0x76#8 .ror .zpx 2 rfl rfl rfl rfl (by decide)

theorem Sys2Proof.Laws.TableRow.rraZpx (z : Sys2Proof.Byte) : Statement (.rraZpx z) :=
  of 0x77#8 .rra .zpx 2 rfl rfl rfl rfl (by decide)

theorem Sys2Proof.Laws.TableRow.sei : Statement .sei :=
  of 0x78#8 .sei .imp 1 rfl rfl rfl rfl (by decide)

theorem Sys2Proof.Laws.TableRow.adcAby (a : Sys2Proof.Word) : Statement (.adcAby a) :=
  of 0x79#8 .adc .aby 3 rfl rfl rfl rfl (by decide)

theorem Sys2Proof.Laws.TableRow.rraAby (a : Sys2Proof.Word) : Statement (.rraAby a) :=
  of 0x7B#8 .rra .aby 3 rfl rfl rfl rfl (by decide)

theorem Sys2Proof.Laws.TableRow.adcAbx (a : Sys2Proof.Word) : Statement (.adcAbx a) :=
  of 0x7D#8 .adc .abx 3 rfl rfl rfl rfl (by decide)

theorem Sys2Proof.Laws.TableRow.rorAbx (a : Sys2Proof.Word) : Statement (.rorAbx a) :=
  of 0x7E#8 .ror .abx 3 rfl rfl rfl rfl (by decide)

theorem Sys2Proof.Laws.TableRow.rraAbx (a : Sys2Proof.Word) : Statement (.rraAbx a) :=
  of 0x7F#8 .rra .abx 3 rfl rfl rfl rfl (by decide)

theorem Sys2Proof.Laws.TableRow.nopImm (k : Fin 5) (d : Sys2Proof.Byte) : Statement (.nopImm k d) :=
  match k with
  | 0 => of 0x80#8 .nop .imm 2 rfl rfl rfl rfl (by decide)
  | 1 => of 0x82#8 .nop .imm 2 rfl rfl rfl rfl (by decide)
  | 2 => of 0x89#8 .nop .imm 2 rfl rfl rfl rfl (by decide)
  | 3 => of 0xC2#8 .nop .imm 2 rfl rfl rfl rfl (by decide)
  | 4 => of 0xE2#8 .nop .imm 2 rfl rfl rfl rfl (by decide)

theorem Sys2Proof.Laws.TableRow.staIzx (z : Sys2Proof.Byte) : Statement (.staIzx z) :=
  of 0x81#8 .sta .izx 2 rfl rfl rfl rfl (by decide)

theorem Sys2Proof.Laws.TableRow.saxIzx (z : Sys2Proof.Byte) : Statement (.saxIzx z) :=
  of 0x83#8 .sax .izx 2 rfl rfl rfl rfl (by decide)

theorem Sys2Proof.Laws.TableRow.styZp (z : Sys2Proof.Byte) : Statement (.styZp z) :=
  of 0x84#8 .sty .zp 2 rfl rfl rfl rfl (by decide)

theorem Sys2Proof.Laws.TableRow.staZp (z : Sys2Proof.Byte) : Statement (.staZp z) :=
  of 0x85#8 .sta .zp 2 rfl rfl rfl rfl (by decide)

theorem Sys2Proof.Laws.TableRow.stxZp (z : Sys2Proof.Byte) : Statement (.stxZp z) :=
  of 0x86#8 .stx .zp 2 rfl rfl rfl rfl (by decide)

theorem Sys2Proof.Laws.TableRow.saxZp (z : Sys2Proof.Byte) : Statement (.saxZp z) :=
  of 0x87#8 .sax .zp 2 rfl rfl rfl rfl (by decide)

theorem Sys2Proof.Laws.TableRow.dey : Statement .dey :=
  of 0x88#8 .dey .imp 1 rfl rfl rfl rfl (by decide)

theorem Sys2Proof.Laws.TableRow.txa : Statement .txa :=
  of 0x8A#8 .txa .imp 1 rfl rfl rfl rfl (by decide)

theorem Sys2Proof.Laws.TableRow.ane (d : Sys2Proof.Byte) : Statement (.ane d) :=
  of 0x8B#8 .ane .imm 2 rfl rfl rfl rfl (by decide)

theorem Sys2Proof.Laws.TableRow.styAbs (a : Sys2Proof.Word) : Statement (.styAbs a) :=
  of 0x8C#8 .sty .abs 3 rfl rfl rfl rfl (by decide)

theorem Sys2Proof.Laws.TableRow.staAbs (a : Sys2Proof.Word) : Statement (.staAbs a) :=
  of 0x8D#8 .sta .abs 3 rfl rfl rfl rfl (by decide)

theorem Sys2Proof.Laws.TableRow.stxAbs (a : Sys2Proof.Word) : Statement (.stxAbs a) :=
  of 0x8E#8 .stx .abs 3 rfl rfl rfl rfl (by decide)

theorem Sys2Proof.Laws.TableRow.saxAbs (a : Sys2Proof.Word) : Statement (.saxAbs a) :=
  of 0x8F#8 .sax .abs 3 rfl rfl rfl rfl (by decide)

theorem Sys2Proof.Laws.TableRow.bcc (d : Sys2Proof.Byte) : Statement (.bcc d) :=
  of 0x90#8 .bcc .rel 2 rfl rfl rfl rfl (by decide)

theorem Sys2Proof.Laws.TableRow.staIzy (z : Sys2Proof.Byte) : Statement (.staIzy z) :=
  of 0x91#8 .sta .izy 2 rfl rfl rfl rfl (by decide)

theorem Sys2Proof.Laws.TableRow.shaIzy (z : Sys2Proof.Byte) : Statement (.shaIzy z) :=
  of 0x93#8 .sha .izy 2 rfl rfl rfl rfl (by decide)

theorem Sys2Proof.Laws.TableRow.styZpx (z : Sys2Proof.Byte) : Statement (.styZpx z) :=
  of 0x94#8 .sty .zpx 2 rfl rfl rfl rfl (by decide)

theorem Sys2Proof.Laws.TableRow.staZpx (z : Sys2Proof.Byte) : Statement (.staZpx z) :=
  of 0x95#8 .sta .zpx 2 rfl rfl rfl rfl (by decide)

theorem Sys2Proof.Laws.TableRow.stxZpy (z : Sys2Proof.Byte) : Statement (.stxZpy z) :=
  of 0x96#8 .stx .zpy 2 rfl rfl rfl rfl (by decide)

theorem Sys2Proof.Laws.TableRow.saxZpy (z : Sys2Proof.Byte) : Statement (.saxZpy z) :=
  of 0x97#8 .sax .zpy 2 rfl rfl rfl rfl (by decide)

theorem Sys2Proof.Laws.TableRow.tya : Statement .tya :=
  of 0x98#8 .tya .imp 1 rfl rfl rfl rfl (by decide)

theorem Sys2Proof.Laws.TableRow.staAby (a : Sys2Proof.Word) : Statement (.staAby a) :=
  of 0x99#8 .sta .aby 3 rfl rfl rfl rfl (by decide)

theorem Sys2Proof.Laws.TableRow.txs : Statement .txs :=
  of 0x9A#8 .txs .imp 1 rfl rfl rfl rfl (by decide)

theorem Sys2Proof.Laws.TableRow.tas (a : Sys2Proof.Word) : Statement (.tas a) :=
  of 0x9B#8 .tas .aby 3 rfl rfl rfl rfl (by decide)

theorem Sys2Proof.Laws.TableRow.shy (a : Sys2Proof.Word) : Statement (.shy a) :=
  of 0x9C#8 .shy .abx 3 rfl rfl rfl rfl (by decide)

theorem Sys2Proof.Laws.TableRow.staAbx (a : Sys2Proof.Word) : Statement (.staAbx a) :=
  of 0x9D#8 .sta .abx 3 rfl rfl rfl rfl (by decide)

theorem Sys2Proof.Laws.TableRow.shx (a : Sys2Proof.Word) : Statement (.shx a) :=
  of 0x9E#8 .shx .aby 3 rfl rfl rfl rfl (by decide)

theorem Sys2Proof.Laws.TableRow.shaAby (a : Sys2Proof.Word) : Statement (.shaAby a) :=
  of 0x9F#8 .sha .aby 3 rfl rfl rfl rfl (by decide)

theorem Sys2Proof.Laws.TableRow.ldyImm (d : Sys2Proof.Byte) : Statement (.ldyImm d) :=
  of 0xA0#8 .ldy .imm 2 rfl rfl rfl rfl (by decide)

theorem Sys2Proof.Laws.TableRow.ldaIzx (z : Sys2Proof.Byte) : Statement (.ldaIzx z) :=
  of 0xA1#8 .lda .izx 2 rfl rfl rfl rfl (by decide)

theorem Sys2Proof.Laws.TableRow.ldxImm (d : Sys2Proof.Byte) : Statement (.ldxImm d) :=
  of 0xA2#8 .ldx .imm 2 rfl rfl rfl rfl (by decide)

theorem Sys2Proof.Laws.TableRow.laxIzx (z : Sys2Proof.Byte) : Statement (.laxIzx z) :=
  of 0xA3#8 .lax .izx 2 rfl rfl rfl rfl (by decide)

theorem Sys2Proof.Laws.TableRow.ldyZp (z : Sys2Proof.Byte) : Statement (.ldyZp z) :=
  of 0xA4#8 .ldy .zp 2 rfl rfl rfl rfl (by decide)

theorem Sys2Proof.Laws.TableRow.ldaZp (z : Sys2Proof.Byte) : Statement (.ldaZp z) :=
  of 0xA5#8 .lda .zp 2 rfl rfl rfl rfl (by decide)

theorem Sys2Proof.Laws.TableRow.ldxZp (z : Sys2Proof.Byte) : Statement (.ldxZp z) :=
  of 0xA6#8 .ldx .zp 2 rfl rfl rfl rfl (by decide)

theorem Sys2Proof.Laws.TableRow.laxZp (z : Sys2Proof.Byte) : Statement (.laxZp z) :=
  of 0xA7#8 .lax .zp 2 rfl rfl rfl rfl (by decide)

theorem Sys2Proof.Laws.TableRow.tay : Statement .tay :=
  of 0xA8#8 .tay .imp 1 rfl rfl rfl rfl (by decide)

theorem Sys2Proof.Laws.TableRow.ldaImm (d : Sys2Proof.Byte) : Statement (.ldaImm d) :=
  of 0xA9#8 .lda .imm 2 rfl rfl rfl rfl (by decide)

theorem Sys2Proof.Laws.TableRow.tax : Statement .tax :=
  of 0xAA#8 .tax .imp 1 rfl rfl rfl rfl (by decide)

theorem Sys2Proof.Laws.TableRow.lxa (d : Sys2Proof.Byte) : Statement (.lxa d) :=
  of 0xAB#8 .lxa .imm 2 rfl rfl rfl rfl (by decide)

theorem Sys2Proof.Laws.TableRow.ldyAbs (a : Sys2Proof.Word) : Statement (.ldyAbs a) :=
  of 0xAC#8 .ldy .abs 3 rfl rfl rfl rfl (by decide)

theorem Sys2Proof.Laws.TableRow.ldaAbs (a : Sys2Proof.Word) : Statement (.ldaAbs a) :=
  of 0xAD#8 .lda .abs 3 rfl rfl rfl rfl (by decide)

theorem Sys2Proof.Laws.TableRow.ldxAbs (a : Sys2Proof.Word) : Statement (.ldxAbs a) :=
  of 0xAE#8 .ldx .abs 3 rfl rfl rfl rfl (by decide)

theorem Sys2Proof.Laws.TableRow.laxAbs (a : Sys2Proof.Word) : Statement (.laxAbs a) :=
  of 0xAF#8 .lax .abs 3 rfl rfl rfl rfl (by decide)

theorem Sys2Proof.Laws.TableRow.bcs (d : Sys2Proof.Byte) : Statement (.bcs d) :=
  of 0xB0#8 .bcs .rel 2 rfl rfl rfl rfl (by decide)

theorem Sys2Proof.Laws.TableRow.ldaIzy (z : Sys2Proof.Byte) : Statement (.ldaIzy z) :=
  of 0xB1#8 .lda .izy 2 rfl rfl rfl rfl (by decide)

theorem Sys2Proof.Laws.TableRow.laxIzy (z : Sys2Proof.Byte) : Statement (.laxIzy z) :=
  of 0xB3#8 .lax .izy 2 rfl rfl rfl rfl (by decide)

theorem Sys2Proof.Laws.TableRow.ldyZpx (z : Sys2Proof.Byte) : Statement (.ldyZpx z) :=
  of 0xB4#8 .ldy .zpx 2 rfl rfl rfl rfl (by decide)

theorem Sys2Proof.Laws.TableRow.ldaZpx (z : Sys2Proof.Byte) : Statement (.ldaZpx z) :=
  of 0xB5#8 .lda .zpx 2 rfl rfl rfl rfl (by decide)

theorem Sys2Proof.Laws.TableRow.ldxZpy (z : Sys2Proof.Byte) : Statement (.ldxZpy z) :=
  of 0xB6#8 .ldx .zpy 2 rfl rfl rfl rfl (by decide)

theorem Sys2Proof.Laws.TableRow.laxZpy (z : Sys2Proof.Byte) : Statement (.laxZpy z) :=
  of 0xB7#8 .lax .zpy 2 rfl rfl rfl rfl (by decide)

theorem Sys2Proof.Laws.TableRow.clv : Statement .clv :=
  of 0xB8#8 .clv .imp 1 rfl rfl rfl rfl (by decide)

theorem Sys2Proof.Laws.TableRow.ldaAby (a : Sys2Proof.Word) : Statement (.ldaAby a) :=
  of 0xB9#8 .lda .aby 3 rfl rfl rfl rfl (by decide)

theorem Sys2Proof.Laws.TableRow.tsx : Statement .tsx :=
  of 0xBA#8 .tsx .imp 1 rfl rfl rfl rfl (by decide)

theorem Sys2Proof.Laws.TableRow.las (a : Sys2Proof.Word) : Statement (.las a) :=
  of 0xBB#8 .las .aby 3 rfl rfl rfl rfl (by decide)

theorem Sys2Proof.Laws.TableRow.ldyAbx (a : Sys2Proof.Word) : Statement (.ldyAbx a) :=
  of 0xBC#8 .ldy .abx 3 rfl rfl rfl rfl (by decide)

theorem Sys2Proof.Laws.TableRow.ldaAbx (a : Sys2Proof.Word) : Statement (.ldaAbx a) :=
  of 0xBD#8 .lda .abx 3 rfl rfl rfl rfl (by decide)

theorem Sys2Proof.Laws.TableRow.ldxAby (a : Sys2Proof.Word) : Statement (.ldxAby a) :=
  of 0xBE#8 .ldx .aby 3 rfl rfl rfl rfl (by decide)

theorem Sys2Proof.Laws.TableRow.laxAby (a : Sys2Proof.Word) : Statement (.laxAby a) :=
  of 0xBF#8 .lax .aby 3 rfl rfl rfl rfl (by decide)

theorem Sys2Proof.Laws.TableRow.cpyImm (d : Sys2Proof.Byte) : Statement (.cpyImm d) :=
  of 0xC0#8 .cpy .imm 2 rfl rfl rfl rfl (by decide)

theorem Sys2Proof.Laws.TableRow.cmpIzx (z : Sys2Proof.Byte) : Statement (.cmpIzx z) :=
  of 0xC1#8 .cmp .izx 2 rfl rfl rfl rfl (by decide)

theorem Sys2Proof.Laws.TableRow.dcpIzx (z : Sys2Proof.Byte) : Statement (.dcpIzx z) :=
  of 0xC3#8 .dcp .izx 2 rfl rfl rfl rfl (by decide)

theorem Sys2Proof.Laws.TableRow.cpyZp (z : Sys2Proof.Byte) : Statement (.cpyZp z) :=
  of 0xC4#8 .cpy .zp 2 rfl rfl rfl rfl (by decide)

theorem Sys2Proof.Laws.TableRow.cmpZp (z : Sys2Proof.Byte) : Statement (.cmpZp z) :=
  of 0xC5#8 .cmp .zp 2 rfl rfl rfl rfl (by decide)

theorem Sys2Proof.Laws.TableRow.decZp (z : Sys2Proof.Byte) : Statement (.decZp z) :=
  of 0xC6#8 .dec .zp 2 rfl rfl rfl rfl (by decide)

theorem Sys2Proof.Laws.TableRow.dcpZp (z : Sys2Proof.Byte) : Statement (.dcpZp z) :=
  of 0xC7#8 .dcp .zp 2 rfl rfl rfl rfl (by decide)

theorem Sys2Proof.Laws.TableRow.iny : Statement .iny :=
  of 0xC8#8 .iny .imp 1 rfl rfl rfl rfl (by decide)

theorem Sys2Proof.Laws.TableRow.cmpImm (d : Sys2Proof.Byte) : Statement (.cmpImm d) :=
  of 0xC9#8 .cmp .imm 2 rfl rfl rfl rfl (by decide)

theorem Sys2Proof.Laws.TableRow.dex : Statement .dex :=
  of 0xCA#8 .dex .imp 1 rfl rfl rfl rfl (by decide)

theorem Sys2Proof.Laws.TableRow.sbx (d : Sys2Proof.Byte) : Statement (.sbx d) :=
  of 0xCB#8 .sbx .imm 2 rfl rfl rfl rfl (by decide)

theorem Sys2Proof.Laws.TableRow.cpyAbs (a : Sys2Proof.Word) : Statement (.cpyAbs a) :=
  of 0xCC#8 .cpy .abs 3 rfl rfl rfl rfl (by decide)

theorem Sys2Proof.Laws.TableRow.cmpAbs (a : Sys2Proof.Word) : Statement (.cmpAbs a) :=
  of 0xCD#8 .cmp .abs 3 rfl rfl rfl rfl (by decide)

theorem Sys2Proof.Laws.TableRow.decAbs (a : Sys2Proof.Word) : Statement (.decAbs a) :=
  of 0xCE#8 .dec .abs 3 rfl rfl rfl rfl (by decide)

theorem Sys2Proof.Laws.TableRow.dcpAbs (a : Sys2Proof.Word) : Statement (.dcpAbs a) :=
  of 0xCF#8 .dcp .abs 3 rfl rfl rfl rfl (by decide)

theorem Sys2Proof.Laws.TableRow.bne (d : Sys2Proof.Byte) : Statement (.bne d) :=
  of 0xD0#8 .bne .rel 2 rfl rfl rfl rfl (by decide)

theorem Sys2Proof.Laws.TableRow.cmpIzy (z : Sys2Proof.Byte) : Statement (.cmpIzy z) :=
  of 0xD1#8 .cmp .izy 2 rfl rfl rfl rfl (by decide)

theorem Sys2Proof.Laws.TableRow.dcpIzy (z : Sys2Proof.Byte) : Statement (.dcpIzy z) :=
  of 0xD3#8 .dcp .izy 2 rfl rfl rfl rfl (by decide)

theorem Sys2Proof.Laws.TableRow.cmpZpx (z : Sys2Proof.Byte) : Statement (.cmpZpx z) :=
  of 0xD5#8 .cmp .zpx 2 rfl rfl rfl rfl (by decide)

theorem Sys2Proof.Laws.TableRow.decZpx (z : Sys2Proof.Byte) : Statement (.decZpx z) :=
  of 0xD6#8 .dec .zpx 2 rfl rfl rfl rfl (by decide)

theorem Sys2Proof.Laws.TableRow.dcpZpx (z : Sys2Proof.Byte) : Statement (.dcpZpx z) :=
  of 0xD7#8 .dcp .zpx 2 rfl rfl rfl rfl (by decide)

theorem Sys2Proof.Laws.TableRow.cld : Statement .cld :=
  of 0xD8#8 .cld .imp 1 rfl rfl rfl rfl (by decide)

theorem Sys2Proof.Laws.TableRow.cmpAby (a : Sys2Proof.Word) : Statement (.cmpAby a) :=
  of 0xD9#8 .cmp .aby 3 rfl rfl rfl rfl (by decide)

theorem Sys2Proof.Laws.TableRow.dcpAby (a : Sys2Proof.Word) : Statement (.dcpAby a) :=
  of 0xDB#8 .dcp .aby 3 rfl rfl rfl rfl (by decide)

theorem Sys2Proof.Laws.TableRow.cmpAbx (a : Sys2Proof.Word) : Statement (.cmpAbx a) :=
  of 0xDD#8 .cmp .abx 3 rfl rfl rfl rfl (by decide)

theorem Sys2Proof.Laws.TableRow.decAbx (a : Sys2Proof.Word) : Statement (.decAbx a) :=
  of 0xDE#8 .dec .abx 3 rfl rfl rfl rfl (by decide)

theorem Sys2Proof.Laws.TableRow.dcpAbx (a : Sys2Proof.Word) : Statement (.dcpAbx a) :=
  of 0xDF#8 .dcp .abx 3 rfl rfl rfl rfl (by decide)

theorem Sys2Proof.Laws.TableRow.cpxImm (d : Sys2Proof.Byte) : Statement (.cpxImm d) :=
  of 0xE0#8 .cpx .imm 2 rfl rfl rfl rfl (by decide)

theorem Sys2Proof.Laws.TableRow.sbcIzx (z : Sys2Proof.Byte) : Statement (.sbcIzx z) :=
  of 0xE1#8 .sbc .izx 2 rfl rfl rfl rfl (by decide)

theorem Sys2Proof.Laws.TableRow.iscIzx (z : Sys2Proof.Byte) : Statement (.iscIzx z) :=
  of 0xE3#8 .isc .izx 2 rfl rfl rfl rfl (by decide)

theorem Sys2Proof.Laws.TableRow.cpxZp (z : Sys2Proof.Byte) : Statement (.cpxZp z) :=
  of 0xE4#8 .cpx .zp 2 rfl rfl rfl rfl (by decide)

theorem Sys2Proof.Laws.TableRow.sbcZp (z : Sys2Proof.Byte) : Statement (.sbcZp z) :=
  of 0xE5#8 .sbc .zp 2 rfl rfl rfl rfl (by decide)

theorem Sys2Proof.Laws.TableRow.incZp (z : Sys2Proof.Byte) : Statement (.incZp z) :=
  of 0xE6#8 .inc .zp 2 rfl rfl rfl rfl (by decide)

theorem Sys2Proof.Laws.TableRow.iscZp (z : Sys2Proof.Byte) : Statement (.iscZp z) :=
  of 0xE7#8 .isc .zp 2 rfl rfl rfl rfl (by decide)

theorem Sys2Proof.Laws.TableRow.inx : Statement .inx :=
  of 0xE8#8 .inx .imp 1 rfl rfl rfl rfl (by decide)

theorem Sys2Proof.Laws.TableRow.sbcImm (d : Sys2Proof.Byte) : Statement (.sbcImm d) :=
  of 0xE9#8 .sbc .imm 2 rfl rfl rfl rfl (by decide)

theorem Sys2Proof.Laws.TableRow.nop : Statement .nop :=
  of 0xEA#8 .nop .imp 1 rfl rfl rfl rfl (by decide)

theorem Sys2Proof.Laws.TableRow.usbc (d : Sys2Proof.Byte) : Statement (.usbc d) :=
  of 0xEB#8 .usbc .imm 2 rfl rfl rfl rfl (by decide)

theorem Sys2Proof.Laws.TableRow.cpxAbs (a : Sys2Proof.Word) : Statement (.cpxAbs a) :=
  of 0xEC#8 .cpx .abs 3 rfl rfl rfl rfl (by decide)

theorem Sys2Proof.Laws.TableRow.sbcAbs (a : Sys2Proof.Word) : Statement (.sbcAbs a) :=
  of 0xED#8 .sbc .abs 3 rfl rfl rfl rfl (by decide)

theorem Sys2Proof.Laws.TableRow.incAbs (a : Sys2Proof.Word) : Statement (.incAbs a) :=
  of 0xEE#8 .inc .abs 3 rfl rfl rfl rfl (by decide)

theorem Sys2Proof.Laws.TableRow.iscAbs (a : Sys2Proof.Word) : Statement (.iscAbs a) :=
  of 0xEF#8 .isc .abs 3 rfl rfl rfl rfl (by decide)

theorem Sys2Proof.Laws.TableRow.beq (d : Sys2Proof.Byte) : Statement (.beq d) :=
  of 0xF0#8 .beq .rel 2 rfl rfl rfl rfl (by decide)

theorem Sys2Proof.Laws.TableRow.sbcIzy (z : Sys2Proof.Byte) : Statement (.sbcIzy z) :=
  of 0xF1#8 .sbc .izy 2 rfl rfl rfl rfl (by decide)

theorem Sys2Proof.Laws.TableRow.iscIzy (z : Sys2Proof.Byte) : Statement (.iscIzy z) :=
  of 0xF3#8 .isc .izy 2 rfl rfl rfl rfl (by decide)

theorem Sys2Proof.Laws.TableRow.sbcZpx (z : Sys2Proof.Byte) : Statement (.sbcZpx z) :=
  of 0xF5#8 .sbc .zpx 2 rfl rfl rfl rfl (by decide)

theorem Sys2Proof.Laws.TableRow.incZpx (z : Sys2Proof.Byte) : Statement (.incZpx z) :=
  of 0xF6#8 .inc .zpx 2 rfl rfl rfl rfl (by decide)

theorem Sys2Proof.Laws.TableRow.iscZpx (z : Sys2Proof.Byte) : Statement (.iscZpx z) :=
  of 0xF7#8 .isc .zpx 2 rfl rfl rfl rfl (by decide)

theorem Sys2Proof.Laws.TableRow.sed : Statement .sed :=
  of 0xF8#8 .sed .imp 1 rfl rfl rfl rfl (by decide)

theorem Sys2Proof.Laws.TableRow.sbcAby (a : Sys2Proof.Word) : Statement (.sbcAby a) :=
  of 0xF9#8 .sbc .aby 3 rfl rfl rfl rfl (by decide)

theorem Sys2Proof.Laws.TableRow.iscAby (a : Sys2Proof.Word) : Statement (.iscAby a) :=
  of 0xFB#8 .isc .aby 3 rfl rfl rfl rfl (by decide)

theorem Sys2Proof.Laws.TableRow.sbcAbx (a : Sys2Proof.Word) : Statement (.sbcAbx a) :=
  of 0xFD#8 .sbc .abx 3 rfl rfl rfl rfl (by decide)

theorem Sys2Proof.Laws.TableRow.incAbx (a : Sys2Proof.Word) : Statement (.incAbx a) :=
  of 0xFE#8 .inc .abx 3 rfl rfl rfl rfl (by decide)

theorem Sys2Proof.Laws.TableRow.iscAbx (a : Sys2Proof.Word) : Statement (.iscAbx a) :=
  of 0xFF#8 .isc .abx 3 rfl rfl rfl rfl (by decide)
end

