-- ==== Sys2Proof/Tests/Slice0.lean ====
section
/-! SUPPORT. Tests and witnesses. The expected results of the tests are those of the spec: the decode tests write out the bytes of
spec/opcode_table.json, the vectors are rows of spec/95_test_vectors.md under the number the name ends in. The witnesses show that
the hypotheses of each statement are met. -/

namespace Sys2Proof.Tests

open Sys2Proof Sys2Proof.Machine Sys2Proof.Claims

/-- A state with bytes put in place by the loader. -/
def loadCells (s : State) : List (Word × Byte) → State
  | [] => s
  | (a, v) :: rest => loadCells (s.loadByte a v) rest

/-- A state with a program put in place by the loader. -/
def loadProgram (s : State) (a : Word) : List Byte → State
  | [] => s
  | b :: rest => loadProgram (s.loadByte a b) (a + 1) rest

/-- The start of a vector: A, X, Y, S, the status byte, PC, the program at PC, and bytes of memory. Reads of peripheral cells
answer 0. -/
def vector (a x y sp p : Byte) (pc : Word) (program : List Byte) (cells : List (Word × Byte)) : State :=
  loadCells
    (loadProgram
      { State.reset with
        a := a, x := x, y := y, sp := sp, flags := unpackP p, pc := pc, ram := [], accesses := []
        periphIn := [0x00#8, 0x00#8, 0x00#8] }
      pc program)
    cells

/-- A step completes and its next state passes a check. -/
def shows (s : State) (check : State → Bool) : Bool :=
  match step s with
  | .next t => check t
  | .fault _ => false
  | .refused _ => false

/-- The step took `n` cycles, one access each. -/
def took (n : Nat) (t : State) : Bool := t.cycles == 7 + n && t.accesses.length == n

/-- The accesses of a list occur in a sequence, in order; none stands for any byte. -/
def inOrder : List (BusKind × Word × Option Byte) → List BusAccess → Bool
  | [], _ => true
  | _ :: _, [] => false
  | (k, a, d) :: rest, x :: more =>
    if x.kind == k && x.addr == a && (d == none || d == some x.data) then inOrder rest more
    else inOrder ((k, a, d) :: rest) more

/-- The operation state a tick leaves. -/
def tickState : Host.Outcome State Fault Refusal → Option OpState
  | .next t => some t.ic.opstate
  | .fault _ => none
  | .refused _ => none

/-! WellFormed: an ill-formed cartridge image for each check, refused. -/

/-- A well-formed image: 16 bytes of program ROM, no cartridge RAM, 2 bytes of character RAM. -/
def smallImage : CartridgeImage where
  mapperId := 0
  prgRom := List.replicate 16 0xEA#8
  prgRamSize := 0
  chr := [0x01#8, 0x02#8]
  chrIsRam := true
  mirroring := .vertical
  battery := false
  trainer := false

theorem test_wellFormed_small : smallImage.wellFormed = true := by decide
theorem test_wellFormed_refuses_mapper : CartridgeImage.wellFormed { smallImage with mapperId := 4 } = false := by decide
theorem test_wellFormed_refuses_banked_M17 : configError { smallImage with mapperId := 1 } = some .switchableBank := by decide
theorem test_wellFormed_refuses_rom_M17 :
    CartridgeImage.wellFormed { smallImage with prgRom := List.replicate 6 0xEA#8 } = false := by decide
theorem test_config_error_order :
    configError { smallImage with mapperId := 4, prgRom := [] } = some (.unsupportedMapper 4) := by decide
theorem test_wellFormed_refuses_empty_rom : CartridgeImage.wellFormed { smallImage with prgRom := [] } = false := by decide
theorem test_wellFormed_refuses_ram :
    CartridgeImage.wellFormed { smallImage with prgRamSize := 0x4000 } = false ∧
      CartridgeImage.wellFormed { smallImage with prgRamSize := 0x300 } = false := by decide
theorem test_wellFormed_refuses_chr :
    CartridgeImage.wellFormed { smallImage with chr := [0x01#8, 0x02#8, 0x03#8] } = false := by decide

/-! Decoding: every row of the opcode table, with operand bytes 12 and 34. -/

theorem test_decode_00_to_0F :
    decodeTableWord 8 0x00 = some .brk ∧ decodeTableWord 16 0x1201 = some (.oraIzx 0x12#8) ∧ decodeTableWord 8 0x02 = some
      (.jam 0) ∧ decodeTableWord 16 0x1203 = some (.sloIzx 0x12#8) ∧ decodeTableWord 16 0x1204 = some (.nopZp 0 0x12#8) ∧
      decodeTableWord 16 0x1205 = some (.oraZp 0x12#8) ∧ decodeTableWord 16 0x1206 = some (.aslZp 0x12#8) ∧ decodeTableWord
      16 0x1207 = some (.sloZp 0x12#8) ∧ decodeTableWord 8 0x08 = some .php ∧ decodeTableWord 16 0x1209 = some (.oraImm
      0x12#8) ∧ decodeTableWord 8 0x0A = some .aslAcc ∧ decodeTableWord 16 0x120B = some (.anc 0 0x12#8) ∧ decodeTableWord
      24 0x34120C = some (.nopAbs 0x3412#16) ∧ decodeTableWord 24 0x34120D = some (.oraAbs 0x3412#16) ∧ decodeTableWord 24
      0x34120E = some (.aslAbs 0x3412#16) ∧ decodeTableWord 24 0x34120F = some (.sloAbs 0x3412#16) := by decide
theorem test_decode_10_to_1F :
    decodeTableWord 16 0x1210 = some (.bpl 0x12#8) ∧ decodeTableWord 16 0x1211 = some (.oraIzy 0x12#8) ∧ decodeTableWord 8
      0x12 = some (.jam 1) ∧ decodeTableWord 16 0x1213 = some (.sloIzy 0x12#8) ∧ decodeTableWord 16 0x1214 = some (.nopZpx 0
      0x12#8) ∧ decodeTableWord 16 0x1215 = some (.oraZpx 0x12#8) ∧ decodeTableWord 16 0x1216 = some (.aslZpx 0x12#8) ∧
      decodeTableWord 16 0x1217 = some (.sloZpx 0x12#8) ∧ decodeTableWord 8 0x18 = some .clc ∧ decodeTableWord 24 0x341219 =
      some (.oraAby 0x3412#16) ∧ decodeTableWord 8 0x1A = some (.nopImp 0) ∧ decodeTableWord 24 0x34121B = some (.sloAby
      0x3412#16) ∧ decodeTableWord 24 0x34121C = some (.nopAbx 0 0x3412#16) ∧ decodeTableWord 24 0x34121D = some (.oraAbx
      0x3412#16) ∧ decodeTableWord 24 0x34121E = some (.aslAbx 0x3412#16) ∧ decodeTableWord 24 0x34121F = some (.sloAbx
      0x3412#16) := by decide
theorem test_decode_20_to_2F :
    decodeTableWord 24 0x341220 = some (.jsr 0x3412#16) ∧ decodeTableWord 16 0x1221 = some (.andIzx 0x12#8) ∧
      decodeTableWord 8 0x22 = some (.jam 2) ∧ decodeTableWord 16 0x1223 = some (.rlaIzx 0x12#8) ∧ decodeTableWord 16 0x1224
      = some (.bitZp 0x12#8) ∧ decodeTableWord 16 0x1225 = some (.andZp 0x12#8) ∧ decodeTableWord 16 0x1226 = some (.rolZp
      0x12#8) ∧ decodeTableWord 16 0x1227 = some (.rlaZp 0x12#8) ∧ decodeTableWord 8 0x28 = some .plp ∧ decodeTableWord 16
      0x1229 = some (.andImm 0x12#8) ∧ decodeTableWord 8 0x2A = some .rolAcc ∧ decodeTableWord 16 0x122B = some (.anc 1
      0x12#8) ∧ decodeTableWord 24 0x34122C = some (.bitAbs 0x3412#16) ∧ decodeTableWord 24 0x34122D = some (.andAbs
      0x3412#16) ∧ decodeTableWord 24 0x34122E = some (.rolAbs 0x3412#16) ∧ decodeTableWord 24 0x34122F = some (.rlaAbs
      0x3412#16) := by decide
theorem test_decode_30_to_3F :
    decodeTableWord 16 0x1230 = some (.bmi 0x12#8) ∧ decodeTableWord 16 0x1231 = some (.andIzy 0x12#8) ∧ decodeTableWord 8
      0x32 = some (.jam 3) ∧ decodeTableWord 16 0x1233 = some (.rlaIzy 0x12#8) ∧ decodeTableWord 16 0x1234 = some (.nopZpx 1
      0x12#8) ∧ decodeTableWord 16 0x1235 = some (.andZpx 0x12#8) ∧ decodeTableWord 16 0x1236 = some (.rolZpx 0x12#8) ∧
      decodeTableWord 16 0x1237 = some (.rlaZpx 0x12#8) ∧ decodeTableWord 8 0x38 = some .sec ∧ decodeTableWord 24 0x341239 =
      some (.andAby 0x3412#16) ∧ decodeTableWord 8 0x3A = some (.nopImp 1) ∧ decodeTableWord 24 0x34123B = some (.rlaAby
      0x3412#16) ∧ decodeTableWord 24 0x34123C = some (.nopAbx 1 0x3412#16) ∧ decodeTableWord 24 0x34123D = some (.andAbx
      0x3412#16) ∧ decodeTableWord 24 0x34123E = some (.rolAbx 0x3412#16) ∧ decodeTableWord 24 0x34123F = some (.rlaAbx
      0x3412#16) := by decide
theorem test_decode_40_to_4F :
    decodeTableWord 8 0x40 = some .rti ∧ decodeTableWord 16 0x1241 = some (.eorIzx 0x12#8) ∧ decodeTableWord 8 0x42 = some
      (.jam 4) ∧ decodeTableWord 16 0x1243 = some (.sreIzx 0x12#8) ∧ decodeTableWord 16 0x1244 = some (.nopZp 1 0x12#8) ∧
      decodeTableWord 16 0x1245 = some (.eorZp 0x12#8) ∧ decodeTableWord 16 0x1246 = some (.lsrZp 0x12#8) ∧ decodeTableWord
      16 0x1247 = some (.sreZp 0x12#8) ∧ decodeTableWord 8 0x48 = some .pha ∧ decodeTableWord 16 0x1249 = some (.eorImm
      0x12#8) ∧ decodeTableWord 8 0x4A = some .lsrAcc ∧ decodeTableWord 16 0x124B = some (.alr 0x12#8) ∧ decodeTableWord 24
      0x34124C = some (.jmpAbs 0x3412#16) ∧ decodeTableWord 24 0x34124D = some (.eorAbs 0x3412#16) ∧ decodeTableWord 24
      0x34124E = some (.lsrAbs 0x3412#16) ∧ decodeTableWord 24 0x34124F = some (.sreAbs 0x3412#16) := by decide
theorem test_decode_50_to_5F :
    decodeTableWord 16 0x1250 = some (.bvc 0x12#8) ∧ decodeTableWord 16 0x1251 = some (.eorIzy 0x12#8) ∧ decodeTableWord 8
      0x52 = some (.jam 5) ∧ decodeTableWord 16 0x1253 = some (.sreIzy 0x12#8) ∧ decodeTableWord 16 0x1254 = some (.nopZpx 2
      0x12#8) ∧ decodeTableWord 16 0x1255 = some (.eorZpx 0x12#8) ∧ decodeTableWord 16 0x1256 = some (.lsrZpx 0x12#8) ∧
      decodeTableWord 16 0x1257 = some (.sreZpx 0x12#8) ∧ decodeTableWord 8 0x58 = some .cli ∧ decodeTableWord 24 0x341259 =
      some (.eorAby 0x3412#16) ∧ decodeTableWord 8 0x5A = some (.nopImp 2) ∧ decodeTableWord 24 0x34125B = some (.sreAby
      0x3412#16) ∧ decodeTableWord 24 0x34125C = some (.nopAbx 2 0x3412#16) ∧ decodeTableWord 24 0x34125D = some (.eorAbx
      0x3412#16) ∧ decodeTableWord 24 0x34125E = some (.lsrAbx 0x3412#16) ∧ decodeTableWord 24 0x34125F = some (.sreAbx
      0x3412#16) := by decide
theorem test_decode_60_to_6F :
    decodeTableWord 8 0x60 = some .rts ∧ decodeTableWord 16 0x1261 = some (.adcIzx 0x12#8) ∧ decodeTableWord 8 0x62 = some
      (.jam 6) ∧ decodeTableWord 16 0x1263 = some (.rraIzx 0x12#8) ∧ decodeTableWord 16 0x1264 = some (.nopZp 2 0x12#8) ∧
      decodeTableWord 16 0x1265 = some (.adcZp 0x12#8) ∧ decodeTableWord 16 0x1266 = some (.rorZp 0x12#8) ∧ decodeTableWord
      16 0x1267 = some (.rraZp 0x12#8) ∧ decodeTableWord 8 0x68 = some .pla ∧ decodeTableWord 16 0x1269 = some (.adcImm
      0x12#8) ∧ decodeTableWord 8 0x6A = some .rorAcc ∧ decodeTableWord 16 0x126B = some (.arr 0x12#8) ∧ decodeTableWord 24
      0x34126C = some (.jmpInd 0x3412#16) ∧ decodeTableWord 24 0x34126D = some (.adcAbs 0x3412#16) ∧ decodeTableWord 24
      0x34126E = some (.rorAbs 0x3412#16) ∧ decodeTableWord 24 0x34126F = some (.rraAbs 0x3412#16) := by decide
theorem test_decode_70_to_7F :
    decodeTableWord 16 0x1270 = some (.bvs 0x12#8) ∧ decodeTableWord 16 0x1271 = some (.adcIzy 0x12#8) ∧ decodeTableWord 8
      0x72 = some (.jam 7) ∧ decodeTableWord 16 0x1273 = some (.rraIzy 0x12#8) ∧ decodeTableWord 16 0x1274 = some (.nopZpx 3
      0x12#8) ∧ decodeTableWord 16 0x1275 = some (.adcZpx 0x12#8) ∧ decodeTableWord 16 0x1276 = some (.rorZpx 0x12#8) ∧
      decodeTableWord 16 0x1277 = some (.rraZpx 0x12#8) ∧ decodeTableWord 8 0x78 = some .sei ∧ decodeTableWord 24 0x341279 =
      some (.adcAby 0x3412#16) ∧ decodeTableWord 8 0x7A = some (.nopImp 3) ∧ decodeTableWord 24 0x34127B = some (.rraAby
      0x3412#16) ∧ decodeTableWord 24 0x34127C = some (.nopAbx 3 0x3412#16) ∧ decodeTableWord 24 0x34127D = some (.adcAbx
      0x3412#16) ∧ decodeTableWord 24 0x34127E = some (.rorAbx 0x3412#16) ∧ decodeTableWord 24 0x34127F = some (.rraAbx
      0x3412#16) := by decide
theorem test_decode_80_to_8F :
    decodeTableWord 16 0x1280 = some (.nopImm 0 0x12#8) ∧ decodeTableWord 16 0x1281 = some (.staIzx 0x12#8) ∧
      decodeTableWord 16 0x1282 = some (.nopImm 1 0x12#8) ∧ decodeTableWord 16 0x1283 = some (.saxIzx 0x12#8) ∧
      decodeTableWord 16 0x1284 = some (.styZp 0x12#8) ∧ decodeTableWord 16 0x1285 = some (.staZp 0x12#8) ∧ decodeTableWord
      16 0x1286 = some (.stxZp 0x12#8) ∧ decodeTableWord 16 0x1287 = some (.saxZp 0x12#8) ∧ decodeTableWord 8 0x88 = some
      .dey ∧ decodeTableWord 16 0x1289 = some (.nopImm 2 0x12#8) ∧ decodeTableWord 8 0x8A = some .txa ∧ decodeTableWord 16
      0x128B = some (.ane 0x12#8) ∧ decodeTableWord 24 0x34128C = some (.styAbs 0x3412#16) ∧ decodeTableWord 24 0x34128D =
      some (.staAbs 0x3412#16) ∧ decodeTableWord 24 0x34128E = some (.stxAbs 0x3412#16) ∧ decodeTableWord 24 0x34128F = some
      (.saxAbs 0x3412#16) := by decide
theorem test_decode_90_to_9F :
    decodeTableWord 16 0x1290 = some (.bcc 0x12#8) ∧ decodeTableWord 16 0x1291 = some (.staIzy 0x12#8) ∧ decodeTableWord 8
      0x92 = some (.jam 8) ∧ decodeTableWord 16 0x1293 = some (.shaIzy 0x12#8) ∧ decodeTableWord 16 0x1294 = some (.styZpx
      0x12#8) ∧ decodeTableWord 16 0x1295 = some (.staZpx 0x12#8) ∧ decodeTableWord 16 0x1296 = some (.stxZpy 0x12#8) ∧
      decodeTableWord 16 0x1297 = some (.saxZpy 0x12#8) ∧ decodeTableWord 8 0x98 = some .tya ∧ decodeTableWord 24 0x341299 =
      some (.staAby 0x3412#16) ∧ decodeTableWord 8 0x9A = some .txs ∧ decodeTableWord 24 0x34129B = some (.tas 0x3412#16) ∧
      decodeTableWord 24 0x34129C = some (.shy 0x3412#16) ∧ decodeTableWord 24 0x34129D = some (.staAbx 0x3412#16) ∧
      decodeTableWord 24 0x34129E = some (.shx 0x3412#16) ∧ decodeTableWord 24 0x34129F = some (.shaAby 0x3412#16) := by
      decide
theorem test_decode_A0_to_AF :
    decodeTableWord 16 0x12A0 = some (.ldyImm 0x12#8) ∧ decodeTableWord 16 0x12A1 = some (.ldaIzx 0x12#8) ∧ decodeTableWord
      16 0x12A2 = some (.ldxImm 0x12#8) ∧ decodeTableWord 16 0x12A3 = some (.laxIzx 0x12#8) ∧ decodeTableWord 16 0x12A4 =
      some (.ldyZp 0x12#8) ∧ decodeTableWord 16 0x12A5 = some (.ldaZp 0x12#8) ∧ decodeTableWord 16 0x12A6 = some (.ldxZp
      0x12#8) ∧ decodeTableWord 16 0x12A7 = some (.laxZp 0x12#8) ∧ decodeTableWord 8 0xA8 = some .tay ∧ decodeTableWord 16
      0x12A9 = some (.ldaImm 0x12#8) ∧ decodeTableWord 8 0xAA = some .tax ∧ decodeTableWord 16 0x12AB = some (.lxa 0x12#8) ∧
      decodeTableWord 24 0x3412AC = some (.ldyAbs 0x3412#16) ∧ decodeTableWord 24 0x3412AD = some (.ldaAbs 0x3412#16) ∧
      decodeTableWord 24 0x3412AE = some (.ldxAbs 0x3412#16) ∧ decodeTableWord 24 0x3412AF = some (.laxAbs 0x3412#16) := by
      decide
theorem test_decode_B0_to_BF :
    decodeTableWord 16 0x12B0 = some (.bcs 0x12#8) ∧ decodeTableWord 16 0x12B1 = some (.ldaIzy 0x12#8) ∧ decodeTableWord 8
      0xB2 = some (.jam 9) ∧ decodeTableWord 16 0x12B3 = some (.laxIzy 0x12#8) ∧ decodeTableWord 16 0x12B4 = some (.ldyZpx
      0x12#8) ∧ decodeTableWord 16 0x12B5 = some (.ldaZpx 0x12#8) ∧ decodeTableWord 16 0x12B6 = some (.ldxZpy 0x12#8) ∧
      decodeTableWord 16 0x12B7 = some (.laxZpy 0x12#8) ∧ decodeTableWord 8 0xB8 = some .clv ∧ decodeTableWord 24 0x3412B9 =
      some (.ldaAby 0x3412#16) ∧ decodeTableWord 8 0xBA = some .tsx ∧ decodeTableWord 24 0x3412BB = some (.las 0x3412#16) ∧
      decodeTableWord 24 0x3412BC = some (.ldyAbx 0x3412#16) ∧ decodeTableWord 24 0x3412BD = some (.ldaAbx 0x3412#16) ∧
      decodeTableWord 24 0x3412BE = some (.ldxAby 0x3412#16) ∧ decodeTableWord 24 0x3412BF = some (.laxAby 0x3412#16) := by
      decide
theorem test_decode_C0_to_CF :
    decodeTableWord 16 0x12C0 = some (.cpyImm 0x12#8) ∧ decodeTableWord 16 0x12C1 = some (.cmpIzx 0x12#8) ∧ decodeTableWord
      16 0x12C2 = some (.nopImm 3 0x12#8) ∧ decodeTableWord 16 0x12C3 = some (.dcpIzx 0x12#8) ∧ decodeTableWord 16 0x12C4 =
      some (.cpyZp 0x12#8) ∧ decodeTableWord 16 0x12C5 = some (.cmpZp 0x12#8) ∧ decodeTableWord 16 0x12C6 = some (.decZp
      0x12#8) ∧ decodeTableWord 16 0x12C7 = some (.dcpZp 0x12#8) ∧ decodeTableWord 8 0xC8 = some .iny ∧ decodeTableWord 16
      0x12C9 = some (.cmpImm 0x12#8) ∧ decodeTableWord 8 0xCA = some .dex ∧ decodeTableWord 16 0x12CB = some (.sbx 0x12#8) ∧
      decodeTableWord 24 0x3412CC = some (.cpyAbs 0x3412#16) ∧ decodeTableWord 24 0x3412CD = some (.cmpAbs 0x3412#16) ∧
      decodeTableWord 24 0x3412CE = some (.decAbs 0x3412#16) ∧ decodeTableWord 24 0x3412CF = some (.dcpAbs 0x3412#16) := by
      decide
theorem test_decode_D0_to_DF :
    decodeTableWord 16 0x12D0 = some (.bne 0x12#8) ∧ decodeTableWord 16 0x12D1 = some (.cmpIzy 0x12#8) ∧ decodeTableWord 8
      0xD2 = some (.jam 10) ∧ decodeTableWord 16 0x12D3 = some (.dcpIzy 0x12#8) ∧ decodeTableWord 16 0x12D4 = some (.nopZpx
      4 0x12#8) ∧ decodeTableWord 16 0x12D5 = some (.cmpZpx 0x12#8) ∧ decodeTableWord 16 0x12D6 = some (.decZpx 0x12#8) ∧
      decodeTableWord 16 0x12D7 = some (.dcpZpx 0x12#8) ∧ decodeTableWord 8 0xD8 = some .cld ∧ decodeTableWord 24 0x3412D9 =
      some (.cmpAby 0x3412#16) ∧ decodeTableWord 8 0xDA = some (.nopImp 4) ∧ decodeTableWord 24 0x3412DB = some (.dcpAby
      0x3412#16) ∧ decodeTableWord 24 0x3412DC = some (.nopAbx 4 0x3412#16) ∧ decodeTableWord 24 0x3412DD = some (.cmpAbx
      0x3412#16) ∧ decodeTableWord 24 0x3412DE = some (.decAbx 0x3412#16) ∧ decodeTableWord 24 0x3412DF = some (.dcpAbx
      0x3412#16) := by decide
theorem test_decode_E0_to_EF :
    decodeTableWord 16 0x12E0 = some (.cpxImm 0x12#8) ∧ decodeTableWord 16 0x12E1 = some (.sbcIzx 0x12#8) ∧ decodeTableWord
      16 0x12E2 = some (.nopImm 4 0x12#8) ∧ decodeTableWord 16 0x12E3 = some (.iscIzx 0x12#8) ∧ decodeTableWord 16 0x12E4 =
      some (.cpxZp 0x12#8) ∧ decodeTableWord 16 0x12E5 = some (.sbcZp 0x12#8) ∧ decodeTableWord 16 0x12E6 = some (.incZp
      0x12#8) ∧ decodeTableWord 16 0x12E7 = some (.iscZp 0x12#8) ∧ decodeTableWord 8 0xE8 = some .inx ∧ decodeTableWord 16
      0x12E9 = some (.sbcImm 0x12#8) ∧ decodeTableWord 8 0xEA = some .nop ∧ decodeTableWord 16 0x12EB = some (.usbc 0x12#8)
      ∧ decodeTableWord 24 0x3412EC = some (.cpxAbs 0x3412#16) ∧ decodeTableWord 24 0x3412ED = some (.sbcAbs 0x3412#16) ∧
      decodeTableWord 24 0x3412EE = some (.incAbs 0x3412#16) ∧ decodeTableWord 24 0x3412EF = some (.iscAbs 0x3412#16) := by
      decide
theorem test_decode_F0_to_FF :
    decodeTableWord 16 0x12F0 = some (.beq 0x12#8) ∧ decodeTableWord 16 0x12F1 = some (.sbcIzy 0x12#8) ∧ decodeTableWord 8
      0xF2 = some (.jam 11) ∧ decodeTableWord 16 0x12F3 = some (.iscIzy 0x12#8) ∧ decodeTableWord 16 0x12F4 = some (.nopZpx
      5 0x12#8) ∧ decodeTableWord 16 0x12F5 = some (.sbcZpx 0x12#8) ∧ decodeTableWord 16 0x12F6 = some (.incZpx 0x12#8) ∧
      decodeTableWord 16 0x12F7 = some (.iscZpx 0x12#8) ∧ decodeTableWord 8 0xF8 = some .sed ∧ decodeTableWord 24 0x3412F9 =
      some (.sbcAby 0x3412#16) ∧ decodeTableWord 8 0xFA = some (.nopImp 5) ∧ decodeTableWord 24 0x3412FB = some (.iscAby
      0x3412#16) ∧ decodeTableWord 24 0x3412FC = some (.nopAbx 5 0x3412#16) ∧ decodeTableWord 24 0x3412FD = some (.sbcAbx
      0x3412#16) ∧ decodeTableWord 24 0x3412FE = some (.incAbx 0x3412#16) ∧ decodeTableWord 24 0x3412FF = some (.iscAbx
      0x3412#16) := by decide

/-! One word of each family bit by bit, opcode byte last. -/

theorem test_bits_load_lda : decodeTableWord 16 0b00000101_10101001 = some (.ldaImm 0x05#8) := by decide
theorem test_bits_store_sta : decodeTableWord 16 0b00010000_10000101 = some (.staZp 0x10#8) := by decide
theorem test_bits_arith_adc : decodeTableWord 24 0b00000011_11111111_01111101 = some (.adcAbx 0x03FF#16) := by decide
theorem test_bits_shift_ror : decodeTableWord 16 0b11110000_01110110 = some (.rorZpx 0xF0#8) := by decide
theorem test_bits_control_jmp : decodeTableWord 24 0b11000000_00010000_01001100 = some (.jmpAbs 0xC010#16) := by decide
theorem test_bits_branch_beq : decodeTableWord 16 0b11111110_11110000 = some (.beq 0xFE#8) := by decide
theorem test_bits_stack_plp : decodeTableWord 8 0b00101000 = some .plp := by decide
theorem test_bits_undocumented_isc : decodeTableWord 16 0b00010000_11110011 = some (.iscIzy 0x10#8) := by decide
theorem test_bits_jam : decodeTableWord 8 0b10010010 = some (.jam 8) := by decide
theorem test_truncated : (match decode [0x4C#8, 0x00#8] with | .error e => e == .truncated 0x4C#8 | .ok _ => false) = true := by
  decide

/-! One step from a vector of spec/95_test_vectors.md. -/

theorem test_lda_A1 : shows (vector 0x00#8 0x00#8 0x00#8 0xFD#8 0x24#8 0xC000#16 [0xA9#8, 0x05#8] [])
    (fun t => t.a == 0x05#8 && t.p == 0x24#8 && t.pc == 0xC002#16 && took 2 t && inOrder [(.read, 0xC001#16, some 0x05#8)]
      t.accesses) = true := by decide
theorem test_lda_A2 : shows (vector 0x00#8 0x00#8 0x00#8 0xFD#8 0x24#8 0xC000#16 [0xA5#8, 0x10#8] [(0x0010#16, 0x7F#8)])
    (fun t => t.a == 0x7F#8 && t.p == 0x24#8 && took 3 t && inOrder [(.read, 0x0010#16, some 0x7F#8)] t.accesses) = true := by
      decide
theorem test_lda_A3 : shows (vector 0x00#8 0x20#8 0x00#8 0xFD#8 0x24#8 0xC000#16 [0xB5#8, 0xF0#8] [(0x0010#16, 0x44#8)])
    (fun t => t.a == 0x44#8 && took 4 t && inOrder [(.read, 0x00F0#16, some 0x00#8), (.read, 0x0010#16, some 0x44#8)]
      t.accesses) = true := by decide
theorem test_ldx_A4 : shows (vector 0x00#8 0x00#8 0x90#8 0xFD#8 0x24#8 0xC000#16 [0xB6#8, 0x80#8] [(0x0010#16, 0x01#8)])
    (fun t => t.x == 0x01#8 && took 4 t && inOrder [(.read, 0x0080#16, some 0x00#8), (.read, 0x0010#16, some 0x01#8)]
      t.accesses) = true := by decide
theorem test_lda_A5 : shows (vector 0x00#8 0x00#8 0x00#8 0xFD#8 0x24#8 0xC000#16 [0xAD#8, 0x10#8, 0x08#8] [(0x0010#16, 0x99#8)])
    (fun t => t.a == 0x99#8 && t.p == 0xA4#8 && t.pc == 0xC003#16 && took 4 t && inOrder [(.read, 0x0810#16, some 0x99#8)]
      t.accesses) = true := by decide
theorem test_lda_A6 : shows (vector 0x00#8 0x00#8 0x00#8 0xFD#8 0x24#8 0xC000#16 [0xBD#8, 0xFF#8, 0x12#8] [(0x02FF#16, 0x22#8)])
    (fun t => t.a == 0x22#8 && took 4 t && inOrder [(.read, 0x12FF#16, some 0x22#8)] t.accesses) = true := by decide
theorem test_lda_A7 : shows (vector 0x00#8 0x01#8 0x00#8 0xFD#8 0x24#8 0xC000#16 [0xBD#8, 0xFF#8, 0x12#8] [(0x0300#16, 0x21#8)])
    (fun t => t.a == 0x21#8 && took 5 t && inOrder [(.read, 0x1200#16, some 0x00#8), (.read, 0x1300#16, some 0x21#8)]
      t.accesses) = true := by decide
theorem test_lda_A8 : shows (vector 0x00#8 0x00#8 0x80#8 0xFD#8 0x24#8 0xC000#16 [0xB9#8, 0x80#8, 0x02#8] [(0x0300#16, 0x66#8)])
    (fun t => t.a == 0x66#8 && took 5 t && inOrder [(.read, 0x0200#16, some 0x00#8), (.read, 0x0300#16, some 0x66#8)]
      t.accesses) = true := by decide
theorem test_ldy_A9 : shows (vector 0x00#8 0xFF#8 0x00#8 0xFD#8 0x24#8 0xC000#16 [0xBC#8, 0x01#8, 0x02#8] [(0x0300#16, 0x80#8)])
    (fun t => t.y == 0x80#8 && t.p == 0xA4#8 && took 5 t && inOrder [(.read, 0x0200#16, some 0x00#8), (.read, 0x0300#16, some
      0x80#8)] t.accesses) = true := by decide
theorem test_lda_A10 : shows (vector 0x00#8 0x01#8 0x00#8 0xFD#8 0x24#8 0xC000#16 [0xA1#8, 0xFE#8] [(0x00FF#16, 0x00#8), (0x0000#16, 0x03#8), (0x0300#16, 0x5A#8)])
    (fun t => t.a == 0x5A#8 && took 6 t && inOrder [(.read, 0x00FE#16, some 0x00#8), (.read, 0x00FF#16, some 0x00#8), (.read,
      0x0000#16, some 0x03#8), (.read, 0x0300#16, some 0x5A#8)] t.accesses) = true := by decide
theorem test_lda_A11 : shows (vector 0x00#8 0x00#8 0x02#8 0xFD#8 0x24#8 0xC000#16 [0xB1#8, 0x10#8] [(0x0010#16, 0x00#8), (0x0011#16, 0x03#8), (0x0302#16, 0x78#8)])
    (fun t => t.a == 0x78#8 && took 5 t && inOrder [(.read, 0x0010#16, some 0x00#8), (.read, 0x0011#16, some 0x03#8), (.read,
      0x0302#16, some 0x78#8)] t.accesses) = true := by decide
theorem test_sta_A14 : shows (vector 0x05#8 0x00#8 0x00#8 0xFD#8 0x24#8 0xC000#16 [0x85#8, 0x10#8] [])
    (fun t => took 3 t && inOrder [(.write, 0x0010#16, some 0x05#8)] t.accesses && t.peek 0x0010#16 == some 0x05#8) = true :=
      by decide
theorem test_sta_A15 : shows (vector 0xAB#8 0x10#8 0x00#8 0xFD#8 0x24#8 0xC000#16 [0x9D#8, 0x00#8, 0x03#8] [])
    (fun t => took 5 t && inOrder [(.read, 0x0310#16, some 0x00#8), (.write, 0x0310#16, some 0xAB#8)] t.accesses && t.peek
      0x0310#16 == some 0xAB#8) = true := by decide
theorem test_sta_A17 : shows (vector 0x1F#8 0x00#8 0x07#8 0xFD#8 0x24#8 0xC000#16 [0x99#8, 0x00#8, 0x20#8] [])
    (fun t => took 5 t && inOrder [(.read, 0x2007#16, none), (.write, 0x2007#16, some 0x1F#8)] t.accesses) = true := by decide
theorem test_sta_A18 : shows (vector 0x3C#8 0x04#8 0x00#8 0xFD#8 0x24#8 0xC000#16 [0x81#8, 0x20#8] [(0x0024#16, 0x00#8), (0x0025#16, 0x06#8)])
    (fun t => took 6 t && inOrder [(.read, 0x0020#16, some 0x00#8), (.read, 0x0024#16, some 0x00#8), (.read, 0x0025#16, some
      0x06#8), (.write, 0x0600#16, some 0x3C#8)] t.accesses && t.peek 0x0600#16 == some 0x3C#8) = true := by decide
theorem test_sta_A19 : shows (vector 0x3D#8 0x00#8 0x10#8 0xFD#8 0x24#8 0xC000#16 [0x91#8, 0x10#8] [(0x0010#16, 0xF8#8), (0x0011#16, 0x06#8)])
    (fun t => took 6 t && inOrder [(.read, 0x0010#16, some 0xF8#8), (.read, 0x0011#16, some 0x06#8), (.read, 0x0608#16, some
      0x00#8), (.write, 0x0708#16, some 0x3D#8)] t.accesses && t.peek 0x0708#16 == some 0x3D#8) = true := by decide
theorem test_stx_A20 : shows (vector 0x00#8 0x7F#8 0x02#8 0xFD#8 0x24#8 0xC000#16 [0x96#8, 0xFF#8] [])
    (fun t => took 4 t && inOrder [(.read, 0x00FF#16, some 0x00#8), (.write, 0x0001#16, some 0x7F#8)] t.accesses && t.peek
      0x0001#16 == some 0x7F#8) = true := by decide
theorem test_sty_A21 : shows (vector 0x00#8 0x02#8 0x33#8 0xFD#8 0x24#8 0xC000#16 [0x94#8, 0xFF#8] [])
    (fun t => took 4 t && inOrder [(.read, 0x00FF#16, some 0x00#8), (.write, 0x0001#16, some 0x33#8)] t.accesses && t.peek
      0x0001#16 == some 0x33#8) = true := by decide
theorem test_inc_A22 : shows (vector 0x00#8 0x10#8 0x00#8 0xFD#8 0x24#8 0xC000#16 [0xFE#8, 0x00#8, 0x03#8] [(0x0310#16, 0x7F#8)])
    (fun t => t.p == 0xA4#8 && took 7 t && inOrder [(.read, 0x0310#16, some 0x7F#8), (.read, 0x0310#16, some 0x7F#8), (.write,
      0x0310#16, some 0x7F#8), (.write, 0x0310#16, some 0x80#8)] t.accesses && t.peek 0x0310#16 == some 0x80#8) = true := by
      decide
theorem test_rol_A23 : shows (vector 0x00#8 0x01#8 0x00#8 0xFD#8 0x25#8 0xC000#16 [0x3E#8, 0xFF#8, 0x02#8] [(0x0300#16, 0x40#8)])
    (fun t => t.p == 0xA4#8 && took 7 t && inOrder [(.read, 0x0200#16, some 0x00#8), (.read, 0x0300#16, some 0x40#8), (.write,
      0x0300#16, some 0x40#8), (.write, 0x0300#16, some 0x81#8)] t.accesses && t.peek 0x0300#16 == some 0x81#8) = true := by
      decide
theorem test_asl_A24 : shows (vector 0x00#8 0x20#8 0x00#8 0xFD#8 0x24#8 0xC000#16 [0x16#8, 0xF0#8] [(0x0010#16, 0xC0#8)])
    (fun t => t.p == 0xA5#8 && took 6 t && inOrder [(.read, 0x00F0#16, some 0x00#8), (.read, 0x0010#16, some 0xC0#8), (.write,
      0x0010#16, some 0xC0#8), (.write, 0x0010#16, some 0x80#8)] t.accesses && t.peek 0x0010#16 == some 0x80#8) = true := by
      decide
theorem test_lsr_A25 : shows (vector 0x00#8 0x00#8 0x00#8 0xFD#8 0x24#8 0xC000#16 [0x4E#8, 0x01#8, 0x20#8] [])
    (fun t => t.p == 0x26#8 && took 6 t && inOrder [(.read, 0x2001#16, some 0x00#8), (.write, 0x2001#16, some 0x00#8),
      (.write, 0x2001#16, some 0x00#8)] t.accesses) = true := by decide
theorem test_dec_A26 : shows (vector 0x00#8 0x01#8 0x00#8 0xFD#8 0x24#8 0xC000#16 [0xDE#8, 0xFF#8, 0x02#8] [(0x0300#16, 0x01#8)])
    (fun t => t.p == 0x26#8 && took 7 t && inOrder [(.read, 0x0200#16, some 0x00#8), (.read, 0x0300#16, some 0x01#8), (.write,
      0x0300#16, some 0x01#8), (.write, 0x0300#16, some 0x00#8)] t.accesses && t.peek 0x0300#16 == some 0x00#8) = true := by
      decide
theorem test_ror_A27 : shows (vector 0x00#8 0x20#8 0x00#8 0xFD#8 0x25#8 0xC000#16 [0x76#8, 0xF0#8] [(0x0010#16, 0x02#8)])
    (fun t => t.p == 0xA4#8 && took 6 t && inOrder [(.read, 0x00F0#16, some 0x00#8), (.read, 0x0010#16, some 0x02#8), (.write,
      0x0010#16, some 0x02#8), (.write, 0x0010#16, some 0x81#8)] t.accesses && t.peek 0x0010#16 == some 0x81#8) = true := by
      decide
theorem test_dcp_A28 : shows (vector 0x10#8 0x00#8 0x01#8 0xFD#8 0x24#8 0xC000#16 [0xD3#8, 0x10#8] [(0x0010#16, 0x00#8), (0x0011#16, 0x03#8), (0x0301#16, 0x11#8)])
    (fun t => t.p == 0x27#8 && took 8 t && inOrder [(.read, 0x0010#16, some 0x00#8), (.read, 0x0011#16, some 0x03#8), (.read,
      0x0301#16, some 0x11#8), (.read, 0x0301#16, some 0x11#8), (.write, 0x0301#16, some 0x11#8), (.write, 0x0301#16, some
      0x10#8)] t.accesses && t.peek 0x0301#16 == some 0x10#8) = true := by decide
theorem test_slo_A29 : shows (vector 0x00#8 0x00#8 0x00#8 0xFD#8 0x24#8 0xC000#16 [0x03#8, 0x20#8] [(0x0020#16, 0x00#8), (0x0021#16, 0x03#8), (0x0300#16, 0x40#8)])
    (fun t => t.a == 0x80#8 && t.p == 0xA4#8 && took 8 t && inOrder [(.read, 0x0020#16, some 0x00#8), (.read, 0x0020#16, some
      0x00#8), (.read, 0x0021#16, some 0x03#8), (.read, 0x0300#16, some 0x40#8), (.write, 0x0300#16, some 0x40#8), (.write,
      0x0300#16, some 0x80#8)] t.accesses && t.peek 0x0300#16 == some 0x80#8) = true := by decide
theorem test_isc_A30 : shows (vector 0x05#8 0x00#8 0x00#8 0xFD#8 0x25#8 0xC000#16 [0xFB#8, 0x00#8, 0x03#8] [(0x0300#16, 0x01#8)])
    (fun t => t.a == 0x03#8 && t.p == 0x25#8 && took 7 t && inOrder [(.read, 0x0300#16, some 0x01#8), (.read, 0x0300#16, some
      0x01#8), (.write, 0x0300#16, some 0x01#8), (.write, 0x0300#16, some 0x02#8)] t.accesses && t.peek 0x0300#16 == some
      0x02#8) = true := by decide
theorem test_ldx_L3 : shows (vector 0x00#8 0x00#8 0x00#8 0xFD#8 0x24#8 0xC000#16 [0xA2#8, 0xFF#8] [])
    (fun t => t.x == 0xFF#8 && t.p == 0xA4#8) = true := by decide
theorem test_ldy_L4 : shows (vector 0x00#8 0x00#8 0x00#8 0xFD#8 0x24#8 0xC000#16 [0xA0#8, 0x00#8] [])
    (fun t => t.y == 0x00#8 && t.p == 0x26#8) = true := by decide
theorem test_stx_L6 : shows (vector 0x00#8 0x7F#8 0x00#8 0xFD#8 0x24#8 0xC000#16 [0x8E#8, 0x00#8, 0x03#8] [])
    (fun t => took 4 t && inOrder [(.write, 0x0300#16, some 0x7F#8)] t.accesses && t.peek 0x0300#16 == some 0x7F#8) = true :=
      by decide
theorem test_tax_L7 : shows (vector 0x80#8 0x00#8 0x00#8 0xFD#8 0x24#8 0xC000#16 [0xAA#8] [])
    (fun t => t.x == 0x80#8 && t.p == 0xA4#8 && t.pc == 0xC001#16 && took 2 t && inOrder [(.read, 0xC000#16, some 0xAA#8),
      (.read, 0xC001#16, none)] t.accesses) = true := by decide
theorem test_tay_L8 : shows (vector 0x00#8 0x00#8 0x05#8 0xFD#8 0x24#8 0xC000#16 [0xA8#8] [])
    (fun t => t.y == 0x00#8 && t.p == 0x26#8) = true := by decide
theorem test_txa_L9 : shows (vector 0x00#8 0x01#8 0x00#8 0xFD#8 0x24#8 0xC000#16 [0x8A#8] [])
    (fun t => t.a == 0x01#8 && t.p == 0x24#8) = true := by decide
theorem test_tya_L10 : shows (vector 0x00#8 0x00#8 0xFF#8 0xFD#8 0x24#8 0xC000#16 [0x98#8] [])
    (fun t => t.a == 0xFF#8 && t.p == 0xA4#8) = true := by decide
theorem test_tsx_L11 : shows (vector 0x00#8 0x00#8 0x00#8 0xFD#8 0x24#8 0xC000#16 [0xBA#8] [])
    (fun t => t.x == 0xFD#8 && t.p == 0xA4#8) = true := by decide
theorem test_txs_L12 : shows (vector 0x00#8 0x00#8 0x00#8 0xFD#8 0x24#8 0xC000#16 [0x9A#8] [])
    (fun t => t.sp == 0x00#8 && t.x == 0x00#8 && t.p == 0x24#8) = true := by decide
theorem test_adc_X1 : shows (vector 0x7F#8 0x00#8 0x00#8 0xFD#8 0x24#8 0xC000#16 [0x69#8, 0x01#8] [])
    (fun t => t.a == 0x80#8 && t.p == 0xE4#8) = true := by decide
theorem test_adc_X3 : shows (vector 0x80#8 0x00#8 0x00#8 0xFD#8 0x24#8 0xC000#16 [0x69#8, 0x80#8] [])
    (fun t => t.a == 0x00#8 && t.p == 0x67#8) = true := by decide
theorem test_sbc_X6 : shows (vector 0x00#8 0x00#8 0x00#8 0xFD#8 0x25#8 0xC000#16 [0xE9#8, 0x01#8] [])
    (fun t => t.a == 0xFF#8 && t.p == 0xA4#8) = true := by decide
theorem test_sbc_X9 : shows (vector 0x50#8 0x00#8 0x00#8 0xFD#8 0x25#8 0xC000#16 [0xE9#8, 0xB0#8] [])
    (fun t => t.a == 0xA0#8 && t.p == 0xE4#8) = true := by decide
theorem test_and_X11 : shows (vector 0xF0#8 0x00#8 0x00#8 0xFD#8 0x24#8 0xC000#16 [0x29#8, 0x0F#8] [])
    (fun t => t.a == 0x00#8 && t.p == 0x26#8) = true := by decide
theorem test_ora_X12 : shows (vector 0x01#8 0x00#8 0x00#8 0xFD#8 0x24#8 0xC000#16 [0x09#8, 0x80#8] [])
    (fun t => t.a == 0x81#8 && t.p == 0xA4#8) = true := by decide
theorem test_eor_X13 : shows (vector 0xFF#8 0x00#8 0x00#8 0xFD#8 0x24#8 0xC000#16 [0x49#8, 0xFF#8] [])
    (fun t => t.a == 0x00#8 && t.p == 0x26#8) = true := by decide
theorem test_cmp_X14 : shows (vector 0x10#8 0x00#8 0x00#8 0xFD#8 0x24#8 0xC000#16 [0xC9#8, 0x10#8] [])
    (fun t => t.p == 0x27#8) = true := by decide
theorem test_cmp_X15 : shows (vector 0x10#8 0x00#8 0x00#8 0xFD#8 0x24#8 0xC000#16 [0xC9#8, 0x20#8] [])
    (fun t => t.p == 0xA4#8) = true := by decide
theorem test_cpx_X17 : shows (vector 0x00#8 0xFF#8 0x00#8 0xFD#8 0x24#8 0xC000#16 [0xE0#8, 0x00#8] [])
    (fun t => t.p == 0xA5#8) = true := by decide
theorem test_cpy_X18 : shows (vector 0x00#8 0x00#8 0x00#8 0xFD#8 0x24#8 0xC000#16 [0xC0#8, 0xFF#8] [])
    (fun t => t.p == 0x24#8) = true := by decide
theorem test_bit_X19 : shows (vector 0x01#8 0x00#8 0x00#8 0xFD#8 0x24#8 0xC000#16 [0x24#8, 0x10#8] [(0x0010#16, 0xC0#8)])
    (fun t => t.p == 0xE6#8 && took 3 t) = true := by decide
theorem test_inc_S1 : shows (vector 0x00#8 0x00#8 0x00#8 0xFD#8 0x24#8 0xC000#16 [0xE6#8, 0x10#8] [(0x0010#16, 0xFF#8)])
    (fun t => t.p == 0x26#8 && took 5 t) = true := by decide
theorem test_inx_S3 : shows (vector 0x00#8 0xFF#8 0x00#8 0xFD#8 0x24#8 0xC000#16 [0xE8#8] [])
    (fun t => t.x == 0x00#8 && t.p == 0x26#8) = true := by decide
theorem test_iny_S4 : shows (vector 0x00#8 0x00#8 0x7F#8 0xFD#8 0x24#8 0xC000#16 [0xC8#8] [])
    (fun t => t.y == 0x80#8 && t.p == 0xA4#8) = true := by decide
theorem test_dex_S5 : shows (vector 0x00#8 0x00#8 0x00#8 0xFD#8 0x24#8 0xC000#16 [0xCA#8] [])
    (fun t => t.x == 0xFF#8 && t.p == 0xA4#8) = true := by decide
theorem test_dey_S6 : shows (vector 0x00#8 0x00#8 0x01#8 0xFD#8 0x24#8 0xC000#16 [0x88#8] [])
    (fun t => t.y == 0x00#8 && t.p == 0x26#8) = true := by decide
theorem test_asl_S7 : shows (vector 0x81#8 0x00#8 0x00#8 0xFD#8 0x24#8 0xC000#16 [0x0A#8] [])
    (fun t => t.a == 0x02#8 && t.p == 0x25#8) = true := by decide
theorem test_lsr_S8 : shows (vector 0x01#8 0x00#8 0x00#8 0xFD#8 0x24#8 0xC000#16 [0x4A#8] [])
    (fun t => t.a == 0x00#8 && t.p == 0x27#8) = true := by decide
theorem test_rol_S10 : shows (vector 0x80#8 0x00#8 0x00#8 0xFD#8 0x25#8 0xC000#16 [0x2A#8] [])
    (fun t => t.a == 0x01#8 && t.p == 0x25#8) = true := by decide
theorem test_ror_S11 : shows (vector 0x01#8 0x00#8 0x00#8 0xFD#8 0x25#8 0xC000#16 [0x6A#8] [])
    (fun t => t.a == 0x80#8 && t.p == 0xA5#8) = true := by decide
theorem test_jmp_J1 : shows (vector 0x00#8 0x00#8 0x00#8 0xFD#8 0x24#8 0xC000#16 [0x4C#8, 0x34#8, 0x12#8] [])
    (fun t => t.pc == 0x1234#16 && took 3 t && inOrder [(.read, 0xC000#16, some 0x4C#8), (.read, 0xC001#16, some 0x34#8),
      (.read, 0xC002#16, some 0x12#8)] t.accesses) = true := by decide
theorem test_jmp_J2 : shows (vector 0x00#8 0x00#8 0x00#8 0xFD#8 0x24#8 0xC000#16 [0x6C#8, 0xFF#8, 0x02#8] [(0x02FF#16, 0x34#8), (0x0200#16, 0x12#8)])
    (fun t => t.pc == 0x1234#16 && took 5 t) = true := by decide
theorem test_jsr_J3 : shows (vector 0x00#8 0x00#8 0x00#8 0xFD#8 0x24#8 0xC000#16 [0x20#8, 0x10#8, 0xC0#8] [])
    (fun t => t.sp == 0xFB#8 && t.pc == 0xC010#16 && took 6 t && inOrder [(.read, 0xC000#16, some 0x20#8), (.read, 0xC001#16,
      some 0x10#8), (.read, 0x01FD#16, some 0x00#8), (.write, 0x01FD#16, some 0xC0#8), (.write, 0x01FC#16, some 0x02#8),
      (.read, 0xC002#16, some 0xC0#8)] t.accesses && t.peek 0x01FC#16 == some 0x02#8) = true := by decide
theorem test_rts_J4 : shows (vector 0x00#8 0x00#8 0x00#8 0xFB#8 0x24#8 0xC010#16 [0x60#8] [(0x01FC#16, 0x02#8), (0x01FD#16, 0xC0#8)])
    (fun t => t.sp == 0xFD#8 && t.pc == 0xC003#16 && took 6 t && inOrder [(.read, 0xC010#16, some 0x60#8), (.read, 0xC011#16,
      none), (.read, 0x01FB#16, none), (.read, 0x01FC#16, some 0x02#8), (.read, 0x01FD#16, some 0xC0#8), (.read, 0xC002#16,
      none)] t.accesses) = true := by decide
theorem test_rti_J5 : shows (vector 0x00#8 0x00#8 0x00#8 0xFA#8 0x24#8 0xC000#16 [0x40#8] [(0x01FB#16, 0xFF#8), (0x01FC#16, 0x34#8), (0x01FD#16, 0x12#8)])
    (fun t => t.sp == 0xFD#8 && t.p == 0xEF#8 && t.pc == 0x1234#16 && took 6 t && inOrder [(.read, 0xC000#16, some 0x40#8),
      (.read, 0xC001#16, none), (.read, 0x01FA#16, none), (.read, 0x01FB#16, some 0xFF#8), (.read, 0x01FC#16, some 0x34#8),
      (.read, 0x01FD#16, some 0x12#8)] t.accesses) = true := by decide
theorem test_brk_J7 : shows (vector 0x00#8 0x00#8 0x00#8 0xFD#8 0x21#8 0xC000#16 [0x00#8, 0xFF#8] [(0xFFFE#16, 0x00#8), (0xFFFF#16, 0xD0#8)])
    (fun t => t.sp == 0xFA#8 && t.p == 0x25#8 && t.pc == 0xD000#16 && took 7 t && inOrder [(.read, 0xC000#16, some 0x00#8),
      (.read, 0xC001#16, some 0xFF#8), (.write, 0x01FD#16, some 0xC0#8), (.write, 0x01FC#16, some 0x02#8), (.write, 0x01FB#16,
      some 0x31#8), (.read, 0xFFFE#16, some 0x00#8), (.read, 0xFFFF#16, some 0xD0#8)] t.accesses && t.peek 0x01FB#16 == some
      0x31#8) = true := by decide
theorem test_bne_B1 : shows (vector 0x00#8 0x00#8 0x00#8 0xFD#8 0x26#8 0xC000#16 [0xD0#8, 0x02#8] [])
    (fun t => t.pc == 0xC002#16 && took 2 t) = true := by decide
theorem test_bne_B3 : shows (vector 0x00#8 0x00#8 0x00#8 0xFD#8 0x24#8 0xC010#16 [0xD0#8, 0xFE#8] [])
    (fun t => t.pc == 0xC010#16 && took 3 t && inOrder [(.read, 0xC012#16, none)] t.accesses) = true := by decide
theorem test_beq_B4 : shows (vector 0x00#8 0x00#8 0x00#8 0xFD#8 0x26#8 0xC0F0#16 [0xF0#8, 0x7F#8] [])
    (fun t => t.pc == 0xC171#16 && took 4 t && inOrder [(.read, 0xC0F2#16, none), (.read, 0xC071#16, none)] t.accesses) = true
      := by decide
theorem test_bpl_B5 : shows (vector 0x00#8 0x00#8 0x00#8 0xFD#8 0x24#8 0xC000#16 [0x10#8, 0xFB#8] [])
    (fun t => t.pc == 0xBFFD#16 && took 4 t && inOrder [(.read, 0xC002#16, none), (.read, 0xC0FD#16, none)] t.accesses) = true
      := by decide
theorem test_bmi_B6 : shows (vector 0x00#8 0x00#8 0x00#8 0xFD#8 0xA4#8 0xC000#16 [0x30#8, 0x10#8] [])
    (fun t => t.pc == 0xC012#16 && took 3 t && inOrder [(.read, 0xC002#16, none)] t.accesses) = true := by decide
theorem test_bvc_B8 : shows (vector 0x00#8 0x00#8 0x00#8 0xFD#8 0x24#8 0xC000#16 [0x50#8, 0x10#8] [])
    (fun t => t.pc == 0xC012#16 && took 3 t && inOrder [(.read, 0xC002#16, none)] t.accesses) = true := by decide
theorem test_bvs_B9 : shows (vector 0x00#8 0x00#8 0x00#8 0xFD#8 0x64#8 0xC000#16 [0x70#8, 0x10#8] [])
    (fun t => t.pc == 0xC012#16 && took 3 t && inOrder [(.read, 0xC002#16, none)] t.accesses) = true := by decide
theorem test_bcc_B10 : shows (vector 0x00#8 0x00#8 0x00#8 0xFD#8 0x24#8 0xC000#16 [0x90#8, 0x10#8] [])
    (fun t => t.pc == 0xC012#16 && took 3 t && inOrder [(.read, 0xC002#16, none)] t.accesses) = true := by decide
theorem test_bcs_B11 : shows (vector 0x00#8 0x00#8 0x00#8 0xFD#8 0x24#8 0xC000#16 [0xB0#8, 0x10#8] [])
    (fun t => t.pc == 0xC002#16 && took 2 t) = true := by decide
theorem test_pha_K1 : shows (vector 0x42#8 0x00#8 0x00#8 0xFD#8 0x24#8 0xC000#16 [0x48#8] [])
    (fun t => t.sp == 0xFC#8 && took 3 t && inOrder [(.read, 0xC001#16, none), (.write, 0x01FD#16, some 0x42#8)] t.accesses &&
      t.peek 0x01FD#16 == some 0x42#8) = true := by decide
theorem test_php_K2 : shows (vector 0x00#8 0x00#8 0x00#8 0xFD#8 0x25#8 0xC000#16 [0x08#8] [])
    (fun t => t.sp == 0xFC#8 && took 3 t && inOrder [(.read, 0xC001#16, none), (.write, 0x01FD#16, some 0x35#8)] t.accesses &&
      t.peek 0x01FD#16 == some 0x35#8) = true := by decide
theorem test_pla_K3 : shows (vector 0x00#8 0x00#8 0x00#8 0xFC#8 0x24#8 0xC000#16 [0x68#8] [(0x01FD#16, 0x80#8)])
    (fun t => t.a == 0x80#8 && t.sp == 0xFD#8 && t.p == 0xA4#8 && took 4 t && inOrder [(.read, 0xC001#16, none), (.read,
      0x01FC#16, none), (.read, 0x01FD#16, some 0x80#8)] t.accesses) = true := by decide
theorem test_plp_K5 : shows (vector 0x00#8 0x00#8 0x00#8 0xFC#8 0x24#8 0xC000#16 [0x28#8] [(0x01FD#16, 0xFF#8)])
    (fun t => t.sp == 0xFD#8 && t.p == 0xEF#8 && took 4 t && inOrder [(.read, 0xC001#16, none), (.read, 0x01FC#16, none),
      (.read, 0x01FD#16, some 0xFF#8)] t.accesses) = true := by decide
theorem test_clc_K8 : shows (vector 0x00#8 0x00#8 0x00#8 0xFD#8 0xEF#8 0xC000#16 [0x18#8] [])
    (fun t => t.p == 0xEE#8 && took 2 t && inOrder [(.read, 0xC001#16, none)] t.accesses) = true := by decide
theorem test_sec_K9 : shows (vector 0x00#8 0x00#8 0x00#8 0xFD#8 0x20#8 0xC000#16 [0x38#8] [])
    (fun t => t.p == 0x21#8 && took 2 t) = true := by decide
theorem test_cli_K10 : shows (vector 0x00#8 0x00#8 0x00#8 0xFD#8 0xEF#8 0xC000#16 [0x58#8] [])
    (fun t => t.p == 0xEB#8 && took 2 t) = true := by decide
theorem test_sei_K11 : shows (vector 0x00#8 0x00#8 0x00#8 0xFD#8 0x20#8 0xC000#16 [0x78#8] [])
    (fun t => t.p == 0x24#8 && took 2 t) = true := by decide
theorem test_clv_K12 : shows (vector 0x00#8 0x00#8 0x00#8 0xFD#8 0xEF#8 0xC000#16 [0xB8#8] [])
    (fun t => t.p == 0xAF#8 && took 2 t) = true := by decide
theorem test_cld_K13 : shows (vector 0x00#8 0x00#8 0x00#8 0xFD#8 0xEF#8 0xC000#16 [0xD8#8] [])
    (fun t => t.p == 0xE7#8 && took 2 t) = true := by decide
theorem test_sed_K14 : shows (vector 0x00#8 0x00#8 0x00#8 0xFD#8 0x20#8 0xC000#16 [0xF8#8] [])
    (fun t => t.p == 0x28#8 && took 2 t) = true := by decide
theorem test_nop_K15 : shows (vector 0x00#8 0x00#8 0x00#8 0xFD#8 0x24#8 0xC000#16 [0xEA#8] [])
    (fun t => t.pc == 0xC001#16 && took 2 t && inOrder [(.read, 0xC001#16, none)] t.accesses) = true := by decide
theorem test_slo_Y1 : shows (vector 0x01#8 0x00#8 0x00#8 0xFD#8 0x24#8 0xC000#16 [0x07#8, 0x10#8] [(0x0010#16, 0x81#8)])
    (fun t => t.a == 0x03#8 && t.p == 0x25#8 && took 5 t && inOrder [(.read, 0x0010#16, some 0x81#8), (.write, 0x0010#16, some
      0x81#8), (.write, 0x0010#16, some 0x02#8)] t.accesses && t.peek 0x0010#16 == some 0x02#8) = true := by decide
theorem test_rla_Y2 : shows (vector 0xFF#8 0x00#8 0x00#8 0xFD#8 0x25#8 0xC000#16 [0x27#8, 0x10#8] [(0x0010#16, 0x80#8)])
    (fun t => t.a == 0x01#8 && t.p == 0x25#8) = true := by decide
theorem test_rla_Y3 : shows (vector 0x0F#8 0x00#8 0x00#8 0xFD#8 0x24#8 0xC000#16 [0x27#8, 0x10#8] [(0x0010#16, 0x55#8)])
    (fun t => t.a == 0x0A#8 && t.p == 0x24#8) = true := by decide
theorem test_sre_Y4 : shows (vector 0xFF#8 0x00#8 0x00#8 0xFD#8 0x24#8 0xC000#16 [0x47#8, 0x10#8] [(0x0010#16, 0x03#8)])
    (fun t => t.a == 0xFE#8 && t.p == 0xA5#8) = true := by decide
theorem test_rra_Y5 : shows (vector 0x10#8 0x00#8 0x00#8 0xFD#8 0x24#8 0xC000#16 [0x67#8, 0x10#8] [(0x0010#16, 0x03#8)])
    (fun t => t.a == 0x12#8 && t.p == 0x24#8) = true := by decide
theorem test_sax_Y7 : shows (vector 0xF0#8 0x3C#8 0x00#8 0xFD#8 0x24#8 0xC000#16 [0x87#8, 0x10#8] [])
    (fun t => took 3 t && inOrder [(.write, 0x0010#16, some 0x30#8)] t.accesses && t.peek 0x0010#16 == some 0x30#8) = true :=
      by decide
theorem test_sax_Y8 : shows (vector 0xFF#8 0x0F#8 0x00#8 0xFD#8 0x24#8 0xC000#16 [0x83#8, 0x20#8] [(0x002F#16, 0x00#8), (0x0030#16, 0x03#8)])
    (fun t => took 6 t && inOrder [(.read, 0x0020#16, none), (.read, 0x002F#16, none), (.read, 0x0030#16, none), (.write,
      0x0300#16, some 0x0F#8)] t.accesses && t.peek 0x0300#16 == some 0x0F#8) = true := by decide
theorem test_lax_Y9 : shows (vector 0x00#8 0x00#8 0x00#8 0xFD#8 0x24#8 0xC000#16 [0xA7#8, 0x10#8] [(0x0010#16, 0x80#8)])
    (fun t => t.a == 0x80#8 && t.x == 0x80#8 && t.p == 0xA4#8 && inOrder [(.read, 0x0010#16, some 0x80#8)] t.accesses) = true
      := by decide
theorem test_lax_Y10 : shows (vector 0x00#8 0x00#8 0x02#8 0xFD#8 0x24#8 0xC000#16 [0xB3#8, 0x10#8] [(0x0010#16, 0xFF#8), (0x0011#16, 0x02#8), (0x0301#16, 0x00#8)])
    (fun t => t.a == 0x00#8 && t.x == 0x00#8 && t.p == 0x26#8 && took 6 t && inOrder [(.read, 0x0201#16, none), (.read,
      0x0301#16, some 0x00#8)] t.accesses) = true := by decide
theorem test_dcp_Y11 : shows (vector 0x40#8 0x00#8 0x00#8 0xFD#8 0x24#8 0xC000#16 [0xC7#8, 0x10#8] [(0x0010#16, 0x41#8)])
    (fun t => t.p == 0x27#8) = true := by decide
theorem test_dcp_Y12 : shows (vector 0x40#8 0x00#8 0x00#8 0xFD#8 0x24#8 0xC000#16 [0xC7#8, 0x10#8] [(0x0010#16, 0x40#8)])
    (fun t => t.p == 0x25#8) = true := by decide
theorem test_isc_Y14 : shows (vector 0x10#8 0x00#8 0x00#8 0xFD#8 0x25#8 0xC000#16 [0xE7#8, 0x10#8] [(0x0010#16, 0x0F#8)])
    (fun t => t.a == 0x00#8 && t.p == 0x27#8) = true := by decide
theorem test_anc_Y16 : shows (vector 0x8F#8 0x00#8 0x00#8 0xFD#8 0x24#8 0xC000#16 [0x0B#8, 0xF0#8] [])
    (fun t => t.a == 0x80#8 && t.p == 0xA5#8) = true := by decide
theorem test_anc_Y17 : shows (vector 0x8F#8 0x00#8 0x00#8 0xFD#8 0x25#8 0xC000#16 [0x2B#8, 0x0F#8] [])
    (fun t => t.a == 0x0F#8 && t.p == 0x24#8) = true := by decide
theorem test_alr_Y18 : shows (vector 0xFF#8 0x00#8 0x00#8 0xFD#8 0x24#8 0xC000#16 [0x4B#8, 0x0F#8] [])
    (fun t => t.a == 0x07#8 && t.p == 0x25#8) = true := by decide
theorem test_arr_Y20 : shows (vector 0xFF#8 0x00#8 0x00#8 0xFD#8 0x25#8 0xC000#16 [0x6B#8, 0xFF#8] [])
    (fun t => t.a == 0xFF#8 && t.p == 0xA5#8) = true := by decide
theorem test_arr_Y23 : shows (vector 0xC0#8 0x00#8 0x00#8 0xFD#8 0x24#8 0xC000#16 [0x6B#8, 0xFF#8] [])
    (fun t => t.a == 0x60#8 && t.p == 0x25#8) = true := by decide
theorem test_sbx_Y26 : shows (vector 0xF0#8 0x3C#8 0x00#8 0xFD#8 0x24#8 0xC000#16 [0xCB#8, 0x10#8] [])
    (fun t => t.x == 0x20#8 && t.p == 0x25#8) = true := by decide
theorem test_las_Y29 : shows (vector 0x00#8 0x00#8 0x00#8 0xF0#8 0x24#8 0xC000#16 [0xBB#8, 0x00#8, 0x03#8] [(0x0300#16, 0x3F#8)])
    (fun t => t.a == 0x30#8 && t.x == 0x30#8 && t.sp == 0x30#8 && took 4 t && inOrder [(.read, 0x0300#16, some 0x3F#8)]
      t.accesses) = true := by decide
theorem test_las_Y30 : shows (vector 0x00#8 0x00#8 0x01#8 0xFF#8 0x24#8 0xC000#16 [0xBB#8, 0xFF#8, 0x02#8] [(0x0300#16, 0x80#8)])
    (fun t => t.a == 0x80#8 && t.x == 0x80#8 && t.sp == 0x80#8 && t.p == 0xA4#8 && took 5 t && inOrder [(.read, 0x0200#16,
      none), (.read, 0x0300#16, some 0x80#8)] t.accesses) = true := by decide
theorem test_usbc_Y31 : shows (vector 0x00#8 0x00#8 0x00#8 0xFD#8 0x25#8 0xC000#16 [0xEB#8, 0x01#8] [])
    (fun t => t.a == 0xFF#8 && t.p == 0xA4#8) = true := by decide
theorem test_sha_Y32 : shows (vector 0xFF#8 0xFF#8 0x10#8 0xFD#8 0x24#8 0xC000#16 [0x9F#8, 0x00#8, 0x03#8] [])
    (fun t => inOrder [(.read, 0x0310#16, none), (.write, 0x0310#16, some 0x04#8)] t.accesses && t.peek 0x0310#16 == some
      0x04#8) = true := by decide
theorem test_sha_Y33 : shows (vector 0xFF#8 0x0F#8 0x10#8 0xFD#8 0x24#8 0xC000#16 [0x9F#8, 0x00#8, 0x02#8] [])
    (fun t => inOrder [(.write, 0x0210#16, some 0x03#8)] t.accesses && t.peek 0x0210#16 == some 0x03#8) = true := by decide
theorem test_sha_Y35 : shows (vector 0xFF#8 0x07#8 0x01#8 0xFD#8 0x24#8 0xC000#16 [0x93#8, 0x10#8] [(0x0010#16, 0x00#8), (0x0011#16, 0x05#8)])
    (fun t => took 6 t && inOrder [(.read, 0x0501#16, none), (.write, 0x0501#16, some 0x06#8)] t.accesses && t.peek 0x0501#16
      == some 0x06#8) = true := by decide
theorem test_shx_Y36 : shows (vector 0x00#8 0xFF#8 0x10#8 0xFD#8 0x24#8 0xC000#16 [0x9E#8, 0x00#8, 0x03#8] [])
    (fun t => inOrder [(.read, 0x0310#16, none), (.write, 0x0310#16, some 0x04#8)] t.accesses && t.peek 0x0310#16 == some
      0x04#8) = true := by decide
theorem test_shx_Y37 : shows (vector 0x00#8 0x05#8 0x20#8 0xFD#8 0x24#8 0xC000#16 [0x9E#8, 0xF0#8, 0x06#8] [])
    (fun t => inOrder [(.read, 0x0610#16, none), (.write, 0x0510#16, some 0x05#8)] t.accesses && t.peek 0x0510#16 == some
      0x05#8) = true := by decide
theorem test_shy_Y38 : shows (vector 0x00#8 0x10#8 0xFF#8 0xFD#8 0x24#8 0xC000#16 [0x9C#8, 0x00#8, 0x03#8] [])
    (fun t => inOrder [(.read, 0x0310#16, none), (.write, 0x0310#16, some 0x04#8)] t.accesses && t.peek 0x0310#16 == some
      0x04#8) = true := by decide
theorem test_tas_Y39 : shows (vector 0xF3#8 0x3F#8 0x10#8 0xFD#8 0x24#8 0xC000#16 [0x9B#8, 0x00#8, 0x03#8] [])
    (fun t => t.sp == 0x33#8 && inOrder [(.read, 0x0310#16, none), (.write, 0x0310#16, some 0x00#8)] t.accesses && t.peek
      0x0310#16 == some 0x00#8) = true := by decide
theorem test_nop_Y40 : shows (vector 0x00#8 0x00#8 0x00#8 0xFD#8 0x24#8 0xC000#16 [0x04#8, 0x10#8] [])
    (fun t => took 3 t && inOrder [(.read, 0x0010#16, none)] t.accesses) = true := by decide
theorem test_nop_Y41 : shows (vector 0x00#8 0x20#8 0x00#8 0xFD#8 0x24#8 0xC000#16 [0x14#8, 0xF0#8] [])
    (fun t => took 4 t && inOrder [(.read, 0x00F0#16, none), (.read, 0x0010#16, none)] t.accesses) = true := by decide
theorem test_nop_Y42 : shows (vector 0x00#8 0x00#8 0x00#8 0xFD#8 0x24#8 0xC000#16 [0x0C#8, 0x02#8, 0x20#8] [])
    (fun t => took 4 t && inOrder [(.read, 0x2002#16, none)] t.accesses) = true := by decide
theorem test_nop_Y43 : shows (vector 0x00#8 0x01#8 0x00#8 0xFD#8 0x24#8 0xC000#16 [0x1C#8, 0x00#8, 0x20#8] [])
    (fun t => took 4 t && inOrder [(.read, 0x2001#16, none)] t.accesses) = true := by decide
theorem test_nop_Y45 : shows (vector 0x00#8 0x00#8 0x00#8 0xFD#8 0x24#8 0xC000#16 [0x80#8, 0x12#8] [])
    (fun t => t.pc == 0xC002#16 && took 2 t) = true := by decide
theorem test_nop_Y46 : shows (vector 0x00#8 0x00#8 0x00#8 0xFD#8 0x24#8 0xC000#16 [0x1A#8] [])
    (fun t => t.pc == 0xC001#16 && took 2 t && inOrder [(.read, 0xC001#16, none)] t.accesses) = true := by decide
theorem test_jam_Y47 : shows (vector 0x00#8 0x00#8 0x00#8 0xFD#8 0x24#8 0xC000#16 [0x02#8] [])
    (fun t => inOrder [(.read, 0xC000#16, some 0x02#8)] t.accesses && t.halted == .jam 0x02#8 && took 1 t) = true := by decide

theorem test_ane_magic : aneResult 0xFF#8 0x00#8 0xFF#8 0x0F#8 = 0x0F#8 ∧ aneResult 0x00#8 0x00#8 0xFF#8 0x0F#8 = 0x00#8 := by decide
theorem test_lxa_magic : lxaResult 0xFF#8 0x00#8 0x55#8 = 0x55#8 ∧ lxaResult 0xEE#8 0x00#8 0x55#8 = 0x44#8 := by decide

/-! Interrupts and reset (rows I1 to I12). -/

/-- The vectors and the instructions of the rows I1 to I12. -/
def vectors : List (Word × Byte) :=
  [ (0xFFFA#16, 0x00#8), (0xFFFB#16, 0xD0#8), (0xFFFC#16, 0x00#8), (0xFFFD#16, 0xC0#8), (0xFFFE#16, 0x00#8),
    (0xFFFF#16, 0xE0#8), (0xD000#16, 0xEA#8), (0xE000#16, 0xEA#8) ]

/-- PC = C000, S = FD, a NOP at C000. -/
def quiet (p : Byte) : State := vector 0x11#8 0x22#8 0x33#8 0xFD#8 p 0xC000#16 [0xEA#8] vectors

theorem test_nmi_I1 : shows { quiet 0x21#8 with nmiPending := true }
    (fun t => t.sp == 0xFA#8 && t.p == 0x25#8 && t.pc == 0xD000#16 && !t.nmiPending && took 7 t &&
      t.accesses == [⟨.read, 0xC000#16, 0xEA#8⟩, ⟨.read, 0xC000#16, 0xEA#8⟩, ⟨.write, 0x01FD#16, 0xC0#8⟩,
        ⟨.write, 0x01FC#16, 0x00#8⟩, ⟨.write, 0x01FB#16, 0x21#8⟩, ⟨.read, 0xFFFA#16, 0x00#8⟩,
        ⟨.read, 0xFFFB#16, 0xD0#8⟩]) = true := by decide
theorem test_irq_I2 : shows { quiet 0x20#8 with irqLine := true }
    (fun t => t.sp == 0xFA#8 && t.p == 0x24#8 && t.pc == 0xE000#16 && t.irqLine && took 7 t &&
      shows t (fun u => u.pc == 0xE001#16)) = true := by decide
theorem test_masked_irq_I3 : shows { quiet 0x24#8 with irqLine := true }
    (fun t => t.pc == 0xC001#16 && t.irqLine && took 2 t) = true := by decide
theorem test_priority_I5 : shows { quiet 0x20#8 with nmiPending := true, irqLine := true, resetPending := true }
    (fun t => t.pc == 0xD000#16 && t.p == 0x24#8 && shows t (fun u => u.pc == 0xC000#16 && u.sp == 0xF7#8 && took 14 { u with
      accesses := List.replicate 14 ⟨.read, 0x0000#16, 0x00#8⟩ } && shows u (fun v => v.pc == 0xC001#16))) = true := by decide
theorem test_priority_I6 : shows { quiet 0x20#8 with irqLine := true, resetPending := true }
    (fun t => t.pc == 0xE000#16 && shows t (fun u => u.pc == 0xC000#16 && !u.resetPending)) = true := by decide
theorem test_masked_irq_I7 : shows { quiet 0x24#8 with irqLine := true, resetPending := true }
    (fun t => t.pc == 0xC000#16 && !t.resetPending && took 7 t) = true := by decide
theorem test_cli_I8 : shows { vector 0#8 0#8 0#8 0xFD#8 0x24#8 0xC000#16 [0x58#8] (vectors ++ [(0xE000#16, 0x40#8)]) with irqLine := true }
    (fun t => t.pc == 0xC001#16 && shows t (fun u => u.pc == 0xE000#16 && u.peek 0x01FB#16 == some 0x20#8 &&
      shows u (fun v => v.pc == 0xC001#16 && v.p == 0x20#8 && shows v (fun w => w.pc == 0xE000#16)))) = true := by decide
theorem test_reset_I10 : shows { quiet 0x29#8 with resetPending := true }
    (fun t => t.a == 0x11#8 && t.x == 0x22#8 && t.y == 0x33#8 && t.sp == 0xFA#8 && t.p == 0x2D#8 && t.pc == 0xC000#16 &&
      inOrder [(.write, 0x01FD#16, some 0xC0#8), (.write, 0x01FC#16, some 0x00#8), (.write, 0x01FB#16, some 0x29#8)]
        t.accesses) = true := by decide
theorem test_power_on_I9 : step (State.powerOn PowerOn.recommended Cartridge.blank) = .next State.reset := by rfl
theorem test_halted_I11 : step { quiet 0x24#8 with halted := .jam 0x02#8, nmiPending := true } = .fault (.jammed 0x02#8) := by rfl

/-! Bus and mapper (rows M1 to M16). -/

/-- 0x4000 bytes of program ROM, 0x800 of cartridge RAM and 0x2000 of character ROM. -/
def smallCart : State :=
  { State.reset with
    periphIn := [0x5C#8]
    cart :=
      { Cartridge.blank with
        prgRomLog2 := 14, prgRom := [(0x0000, 0x77#8), (0x3FFC, 0x88#8)], prgRamLog2 := some 11, chr := [(0x1FFF, 0x99#8)]
        chrIsRam := false } }

theorem test_ram_M1 : State.readValue (smallCart.onWrite 0x0000#16 0xAB#8) 0x1800#16 = 0xAB#8 := by decide
theorem test_ppu_M3 : (smallCart.onWrite 0x2008#16 0x11#8).ram = smallCart.ram ∧ smallCart.cellAt 0x2008#16 = .ppu 0 := by decide
theorem test_ppu_M4 : smallCart.readValue 0x3FFA#16 = 0x5C#8 ∧ smallCart.cellAt 0x3FFA#16 = .ppu 2 ∧
    (smallCart.onRead 0x3FFA#16).accesses.getLast? = some ⟨.read, 0x3FFA#16, 0x5C#8⟩ := by decide
theorem test_apu_M5 : smallCart.cellAt 0x4014#16 = .apuIo 0x14 ∧
    State.deliveredTo { smallCart.onWrite 0x4014#16 0x02#8 with accesses := [⟨.write, 0x4014#16, 0x02#8⟩] } .video =
      [⟨.write, .apuIo 0x14, 0x02#8⟩] := by decide
theorem test_sta_4016_reaches_audio_input : shows (vector 0x01#8 0#8 0#8 0xFD#8 0x24#8 0xC000#16 [0x8D#8, 0x16#8, 0x40#8] [])
    (fun t => t.deliveredTo .audioInput == [⟨.write, .apuIo 0x16, 0x01#8⟩] && t.deliveredTo .video == []) = true := by decide
theorem test_plain_M6 : State.readValue (smallCart.onWrite 0x4018#16 0x77#8) 0x4018#16 = 0x77#8 := by decide
theorem test_unmapped_M7 : smallCart.readValue 0x4020#16 = 0x00#8 ∧ smallCart.readValue 0x5FFF#16 = 0x00#8 := by decide
theorem test_prgRam_M10 : State.readValue (smallCart.onWrite 0x6000#16 0x11#8) 0x6800#16 = 0x11#8 := by decide
theorem test_prgRom_M11 : smallCart.readValue 0x8000#16 = 0x77#8 ∧ smallCart.readValue 0xC000#16 = 0x77#8 := by decide
theorem test_prgRom_M12 : smallCart.readValue 0xFFFC#16 = 0x88#8 := by decide
theorem test_prgRom_M14 : State.readValue (smallCart.onWrite 0x8000#16 0x11#8) 0x8000#16 = 0x77#8 := by decide
theorem test_chr_M15 : ppuRead smallCart.cart 0x1FFF#13 = 0x99#8 := by decide
theorem test_chr_M16 : ppuWrite smallCart.cart 0x0000#13 0x5A#8 = smallCart.cart := by decide
theorem test_mirror_E1 : mirror 0x1FFF#16 = 0x07FF#16 ∧ mirror 0x2008#16 = 0x2000#16 ∧ mirror 0x3FFF#16 = 0x2007#16 ∧
    mirror 0x3456#16 = 0x2006#16 ∧ mirror 0x4000#16 = 0x4000#16 ∧ mirror 0xC000#16 = 0xC000#16 := by decide

/-- The state after `n` ticks, or the state itself where they stop. -/
def afterTicks (n : Nat) (s : State) : State :=
  match ticks n s with
  | .next t => t
  | .fault _ => s
  | .refused _ => s

/-- RTI pulling a status byte FF; the flags change in the sixth tick only (40_instruction_cycle.md R143). -/
def returning : State := vector 0#8 0#8 0#8 0xFA#8 0x24#8 0xC000#16 [0x40#8] [(0x01FB#16, 0xFF#8)]

theorem test_rti_flags_last_R143 : (afterTicks 5 returning).p = 0x24#8 ∧ (afterTicks 6 returning).p = 0xEF#8 := by decide
theorem test_nmi_flags_last_R143 : (afterTicks 6 { quiet 0x20#8 with nmiPending := true }).flags.i = false ∧
    (afterTicks 7 { quiet 0x20#8 with nmiPending := true }).flags.i = true := by decide

theorem test_core_step : core.step = step := rfl
theorem test_withFetchWord_runs : shows (State.reset.withFetchWord 16 0x05A9) (fun t => t.a == 0x05#8) = true := by decide
theorem test_one_tick : tickState (tick (quiet 0x24#8)) = some .decode := by decide

/-! Witnesses: the hypotheses of each statement that has some are met, each clause at a boundary of its range. -/

/-- LDA (10),Y with the pointer 02FF and Y = 2, which crosses a page; A = 0x0F, X = 0x3C. -/
def crossing : State :=
  vector 0x0F#8 0x3C#8 0x02#8 0xFD#8 0x24#8 0xC000#16 [0xB1#8, 0x10#8] [(0x0010#16, 0xFF#8), (0x0011#16, 0x02#8), (0x0301#16, 0x77#8)]

theorem witness_DecodedBytesAreTheEncoding : decode [0x6C#8, 0xFF#8, 0x02#8, 0xEA#8] = .ok (.jmpInd 0x02FF#16, [0xEA#8]) := by rfl

theorem witness_StepRunsDecodedInstruction : AtFetch crossing ∧ LinesQuiet crossing ∧
    (∃ i rest, decode crossing.fetchBytes = .ok (i, rest)) ∧ crossing.peek crossing.pc = some 0xB1#8 ∧
    crossing.peek (crossing.pc + 1) = some 0x10#8 ∧ crossing.peek (crossing.pc + 2) = some 0x00#8 := by
  refine ⟨⟨?_, ?_⟩, ⟨?_, ?_, ?_⟩, ⟨.ldaIzy 0x10#8, [0x00#8], rfl⟩, ?_, ?_, ?_⟩ <;> decide

theorem witness_RunningMachineNeverFaults : State.reset.halted = .running := rfl

theorem witness_AccessesOfReadAndRegisterInstructions :
    ((Instr.ldaIzy 0x10#8).operand = .mem (.izy 0x10#8) ∧
      (opcodeRow (Instr.ldaIzy 0x10#8).opcode).map (·.group) = some .read ∧ MemMode.crossed (.izy 0x10#8) crossing = true) ∧
    (Instr.nopImm 4 0x10#8).operand = .imm 0x10#8 ∧ Instr.aslAcc.operand = .acc ∧
    (Instr.nop.operand = .imp ∧ Instr.nop.mnemonic ∉ [.brk, .rti, .rts, .pha, .php, .pla, .plp, .jam]) := by decide

theorem witness_AccessesOfWriteInstructions :
    (∀ i ∈ [Instr.staAbx 0x02FF#16, .shx 0x02FF#16, .shy 0x02FF#16, .shaAby 0x02FF#16, .tas 0x02FF#16, .saxZp 0xFF#8],
      (∃ m, i.operand = .mem m) ∧ (opcodeRow i.opcode).map (·.group) = some .write) ∧
    (Instr.staAbx 0x02FF#16).mnemonic = .sta ∧ (Instr.shx 0x02FF#16).mnemonic = .shx ∧
    (Instr.shy 0x02FF#16).mnemonic = .shy ∧ (Instr.shaAby 0x02FF#16).mnemonic = .sha := by
  refine ⟨?_, ?_⟩
  · simp only [List.forall_mem_cons, List.not_mem_nil, false_implies, implies_true, and_true]
    exact ⟨⟨⟨_, rfl⟩, by decide⟩, ⟨⟨_, rfl⟩, by decide⟩, ⟨⟨_, rfl⟩, by decide⟩, ⟨⟨_, rfl⟩, by decide⟩, ⟨⟨_, rfl⟩, by decide⟩,
      ⟨⟨_, rfl⟩, by decide⟩⟩
  · decide

theorem witness_AccessesOfReadModifyWriteInstructions :
    (Instr.incAbx 0x02FF#16).operand = .mem (.abx 0x02FF#16) ∧
      (opcodeRow (Instr.incAbx 0x02FF#16).opcode).map (·.group) = some .rmw := by decide

theorem witness_OperandAddresses : crossing.peek (MemMode.ea (.izy 0x10#8) crossing) = some 0x77#8 := by decide

theorem witness_PageCrossing :
    (∃ w, MemMode.abx 0xFFFF#16 = .abx w ∨ MemMode.abx 0xFFFF#16 = .aby w) ∧ (∃ z, MemMode.izy 0xFF#8 = .izy z) ∧
    (Instr.beq 0x80#8).operand = .rel 0x80#8 ∧ branchTaken (Instr.beq 0x80#8).mnemonic (unpackP 0x02#8) = true :=
  ⟨⟨_, .inl rfl⟩, ⟨_, rfl⟩, by decide, by decide⟩

theorem witness_MirrorAndDispatch :
    [0x1FFF#16, 0x2000#16, 0x3FFF#16, 0x4000#16, 0x4017#16, 0x4018#16, 0x401F#16, 0x4020#16, 0xFFFF#16].map
        (fun a => (mirror a).toNat) =
      [0x07FF, 0x2000, 0x2007, 0x4000, 0x4017, 0x4018, 0x401F, 0x4020, 0xFFFF] := by decide

theorem witness_FixedBankCartridge :
    0x8000 ≤ (0x8000#16).toNat ∧ 0x6000 ≤ (0x7FFF#16).toNat ∧ (0x7FFF#16).toNat < 0x8000 ∧ 0 < smallCart.cart.prgRamSize ∧
    0x4020 ≤ (0x5FFF#16).toNat ∧ (0x5FFF#16).toNat < 0x6000 ∧ 0 < smallCart.cart.chrSize ∧
    Cartridge.chrSize { Cartridge.blank with chrLog2 := none } = 0 ∧
    Cartridge.prgRamSize { Cartridge.blank with prgRamLog2 := none } = 0 := by decide

theorem witness_BusCells :
    (0x1FFF#16).toNat ≤ 0x1FFF ∧ 0x4018 ≤ (0x401F#16).toNat ∧ (0x401F#16).toNat ≤ 0x401F ∧ 0x2000 ≤ (0x3FFF#16).toNat ∧
    (0x4017#16).toNat ≤ 0x4017 ∧ smallCart.periphIn = 0x5C#8 :: [] := by decide

theorem witness_PeripheralDelivery :
    (0x2000 ≤ (0x3FFF#16).toNat ∧ (0x3FFF#16).toNat ≤ 0x3FFF) ∧ (0x4014#16).toNat = 0x4014 ∧
    (0x4000 ≤ (0x4017#16).toNat ∧ (0x4017#16).toNat ≤ 0x4017 ∧ (0x4017#16).toNat ≠ 0x4014) ∧ (0x1FFF#16).toNat ≤ 0x1FFF ∧
    0x4018 ≤ (0x4018#16).toNat := by decide

theorem witness_Loads :
    (Instr.ldaIzy 0x10#8).mnemonic = .lda ∧ (Instr.ldxZpy 0xFF#8).mnemonic = .ldx ∧ (Instr.ldyAbx 0xFFFF#16).mnemonic = .ldy ∧
    (Instr.laxIzx 0xFF#8).mnemonic = .lax ∧ (Instr.las 0xFFFF#16).mnemonic = .las := by decide

theorem witness_Stores :
    (Instr.staIzy 0x10#8).mnemonic = .sta ∧ (Instr.stxZpy 0xFF#8).mnemonic = .stx ∧ (Instr.styZpx 0xFF#8).mnemonic = .sty ∧
    (Instr.saxIzx 0xFF#8).mnemonic = .sax := by decide

theorem witness_UnstableStores :
    (Instr.shaIzy 0x10#8).mnemonic = .sha ∧ (Instr.shx 0x02FF#16).mnemonic = .shx ∧ (Instr.shy 0x02FF#16).mnemonic = .shy ∧
    (Instr.tas 0x02FF#16).mnemonic = .tas ∧ MemMode.crossed (.izy 0x10#8) crossing = true := by decide

theorem witness_AddAndSubtract :
    (Instr.adcImm 0x7F#8).mnemonic = .adc ∧ (Instr.sbcIzy 0x80#8).mnemonic = .sbc ∧ (Instr.usbc 0x80#8).mnemonic = .usbc := by
  decide

theorem witness_Logic :
    (Instr.andIzx 0xFF#8).mnemonic = .and ∧ (Instr.oraAby 0xFFFF#16).mnemonic = .ora ∧ (Instr.eorImm 0xFF#8).mnemonic = .eor ∧
    (Instr.bitAbs 0xFFFF#16).mnemonic = .bit := by decide

theorem witness_Compares :
    (Instr.cmpIzy 0xFF#8).mnemonic = .cmp ∧ (Instr.cpxAbs 0xFFFF#16).mnemonic = .cpx ∧ (Instr.cpyImm 0xFF#8).mnemonic = .cpy := by
  decide

theorem witness_ModifiedMemory :
    (Instr.incZp 0xFF#8).mnemonic ∈ [Mnemonic.inc, .dec, .asl, .lsr, .rol, .ror] ∧
    (Instr.incZp 0xFF#8).operand = .mem (.zp 0xFF#8) ∧
    (Instr.rorAbx 0xFFFF#16).mnemonic ∈ [Mnemonic.inc, .dec, .asl, .lsr, .rol, .ror] ∧
    (Instr.rorAbx 0xFFFF#16).operand = .mem (.abx 0xFFFF#16) := by decide

theorem witness_AccumulatorShifts : Instr.rorAcc ∈ [Instr.aslAcc, .lsrAcc, .rolAcc, .rorAcc] := by decide

theorem witness_CombinedShifts :
    (Instr.sloIzx 0xFF#8).mnemonic = .slo ∧ (Instr.rlaIzy 0xFF#8).mnemonic = .rla ∧ (Instr.sreAby 0xFFFF#16).mnemonic = .sre ∧
    (Instr.rraAbx 0xFFFF#16).mnemonic = .rra := by decide

theorem witness_DecrementCompareAndIncrementSubtract :
    (Instr.dcpIzy 0xFF#8).mnemonic = .dcp ∧ (Instr.iscZpx 0xFF#8).mnemonic = .isc := by decide

/-- A state whose RAM holds a pointer at 02FF whose high byte is at 0200. -/
def pointerAtPageEnd : State :=
  vector 0#8 0#8 0#8 0xFD#8 0x24#8 0xC000#16 [0x6C#8, 0xFF#8, 0x02#8] [(0x02FF#16, 0x34#8), (0x0200#16, 0x12#8)]

theorem witness_Jumps :
    (0x02FF#16).toNat % 256 = 255 ∧ pointerAtPageEnd.peek 0x02FF#16 = some 0x34#8 ∧
    pointerAtPageEnd.peek (0x02FF#16 - 0xFF#16) = some 0x12#8 := by decide

theorem witness_CallAndReturn : ∃ t, exec (.jsr 0xC010#16) (quiet 0x24#8) = .next t ∧
    t.peek ((quiet 0x24#8).pc + 2) = some 0x00#8 := ⟨_, rfl, by decide⟩

theorem witness_ReturnFromInterrupt :
    (quiet 0x24#8).peek (stackAddr ((quiet 0x24#8).sp + 1)) = some 0x00#8 ∧
    State.peek { quiet 0x24#8 with sp := 0xFF#8 } (stackAddr (0xFF#8 + 1)) = some 0x00#8 := by decide

theorem witness_Branches :
    [Instr.bpl 0x7F#8, .bmi 0x80#8, .bvc 0x00#8, .bvs 0xFF#8, .bcc 0xFE#8, .bcs 0x01#8, .bne 0x7F#8, .beq 0x80#8].map
        (fun i => i.operand) =
      [.rel 0x7F#8, .rel 0x80#8, .rel 0x00#8, .rel 0xFF#8, .rel 0xFE#8, .rel 0x01#8, .rel 0x7F#8, .rel 0x80#8] := by decide

theorem witness_StackInstructions :
    (quiet 0x24#8).peek (stackAddr ((quiet 0x24#8).sp + 1)) = some 0x00#8 := by decide

theorem witness_Nops :
    [Instr.nop, .nopImp 5, .nopImm 4 0xFF#8, .nopZp 2 0xFF#8, .nopZpx 5 0xFF#8, .nopAbs 0x2002#16, .nopAbx 5 0xFFFF#16].map
        (fun i => i.mnemonic) = List.replicate 7 .nop := by decide

theorem witness_JamHalts : ∃ t, exec (.jam 11) (quiet 0x24#8) = .next t ∧ t.halted ≠ (quiet 0x24#8).halted :=
  ⟨_, rfl, by decide⟩

theorem witness_HaltedIsAbsorbing :
    State.halted { quiet 0x24#8 with halted := .jam 0x02#8 } = .jam 0x02#8 ∧
    State.halted { quiet 0x24#8 with halted := .unknownOpcode 0x02#8 } = .unknownOpcode 0x02#8 := by decide

/-- A state at a boundary with any of the three lines set. -/
def withLines (p : Byte) (nmi irq reset : Bool) : State :=
  { quiet p with nmiPending := nmi, irqLine := irq, resetPending := reset }

theorem atFetch_withLines (p : Byte) (n i r : Bool) : AtFetch (withLines p n i r) := ⟨rfl, rfl⟩

theorem witness_Arbiter :
    AtFetch (withLines 0x20#8 true true true) ∧ AtFetch (withLines 0x20#8 false true true) ∧
    AtFetch (withLines 0x24#8 false true true) ∧ AtFetch (withLines 0x24#8 false true false) ∧
    (withLines 0x20#8 true true true).nmiPending = true ∧ (withLines 0x20#8 true true true).resetPending = true ∧
    (withLines 0x20#8 true false false).resetPending = false ∧
    ((withLines 0x20#8 false true true).nmiPending = false ∧ (withLines 0x20#8 false true true).irqLine = true ∧
      (withLines 0x20#8 false true true).flags.i = false) ∧
    ((withLines 0x24#8 false true true).nmiPending = false ∧ (withLines 0x24#8 false true true).flags.i = true ∧
      (withLines 0x24#8 false true true).resetPending = true) ∧
    LinesQuiet (withLines 0x24#8 false true false) := by
  refine ⟨atFetch_withLines _ _ _ _, atFetch_withLines _ _ _ _, atFetch_withLines _ _ _ _, atFetch_withLines _ _ _ _, ?_, ?_, ?_,
    ?_, ?_, ?_⟩ <;> first | decide | exact ⟨rfl, .inr rfl, rfl⟩

theorem witness_ResetTaken :
    AtFetch (withLines 0x24#8 false true true) ∧ (withLines 0x24#8 false true true).nmiPending = false ∧
    (withLines 0x24#8 false true true).flags.i = true ∧ (withLines 0x24#8 false true true).resetPending = true :=
  ⟨atFetch_withLines _ _ _ _, rfl, rfl, rfl⟩

theorem witness_InterruptDisableFlag :
    AtFetch (withLines 0x20#8 false true false) ∧
    ((withLines 0x20#8 false true false).nmiPending = false ∧ (withLines 0x20#8 false true false).resetPending = false ∧
      (withLines 0x20#8 false true false).irqLine = true ∧ (withLines 0x20#8 false true false).flags.i = false) ∧
    (withLines 0x24#8 false true false).flags.i = true ∧ (withLines 0x24#8 true false false).nmiPending = true ∧
    ((withLines 0x24#8 false false true).irqLine = false ∧ (withLines 0x24#8 false false true).resetPending = true) ∧
    ∃ t, exec .brk (withLines 0x20#8 false true false) = .next t :=
  ⟨atFetch_withLines _ _ _ _, ⟨rfl, rfl, rfl, rfl⟩, rfl, rfl, ⟨rfl, rfl⟩, _, rfl⟩

theorem witness_StatusByte :
    (∃ t, exec .php (quiet 0x24#8) = .next t) ∧ (∃ t, exec .brk (quiet 0x24#8) = .next t) ∧
    (quiet 0x24#8).peek (stackAddr ((quiet 0x24#8).sp + 1)) = some 0x00#8 ∧ Instr.rti ∈ [Instr.plp, .rti] :=
  ⟨⟨_, rfl⟩, ⟨_, rfl⟩, by decide, by decide⟩

/-- An instruction run from a quiet state gives a value of the state another value. -/
def changes {α : Type} [DecidableEq α] (f : State → α) (i : Instr) : Bool :=
  match exec i (quiet 0x20#8) with
  | .next t => decide (f t ≠ f (quiet 0x20#8))
  | .fault _ => false
  | .refused _ => false

theorem witness_RegisterWriters :
    changes State.a .txa = true ∧ changes State.x .tax = true ∧ changes State.y .tay = true ∧ changes State.sp .txs = true ∧
    (match exec (.jmpAbs 0x1234#16) (quiet 0x20#8) with
      | .next t => decide (t.pc ≠ nextPc (.jmpAbs 0x1234#16) (quiet 0x20#8))
      | .fault _ => false
      | .refused _ => false) = true := by decide

theorem witness_FlagWriters :
    changes (fun s => s.flags.c) .sec = true ∧ changes (fun s => s.flags.z) (.ldaImm 0x00#8) = true ∧
    changes (fun s => s.flags.n) (.ldaImm 0x80#8) = true ∧ changes (fun s => s.flags.i) .sei = true ∧
    changes (fun s => s.flags.d) .sed = true ∧ changes (fun s => s.flags.v) (.adcImm 0x7F#8) = true := by decide

theorem witness_LinesAreConsumedOnlyAtFetch :
    (∃ t, exec .nop (quiet 0x24#8) = .next t) ∧ (∃ t, step (withLines 0x24#8 true false true) = .next t) ∧
    (∃ t, step (withLines 0x24#8 false false true) = .next t) ∧ AtFetch (withLines 0x24#8 true false true) :=
  ⟨⟨_, rfl⟩, ⟨_, rfl⟩, ⟨_, rfl⟩, atFetch_withLines _ _ _ _⟩

theorem witness_RomAndCharacterMemoryAreNeverWritten :
    AtFetch (vector 0x11#8 0#8 0#8 0xFD#8 0x24#8 0xC000#16 [0x8D#8, 0x00#8, 0x80#8] []) ∧
    ∃ t, step (vector 0x11#8 0#8 0#8 0xFD#8 0x24#8 0xC000#16 [0x8D#8, 0x00#8, 0x80#8] []) = .next t :=
  ⟨⟨by decide, by decide⟩, _, rfl⟩

theorem witness_DecimalFlagHasNoEffect :
    (Instr.adcImm 0x09#8).mnemonic ∉ [.sed, .cld, .plp, .rti, .php, .brk] ∧
    ∃ t, exec (.adcImm 0x09#8) (quiet 0x28#8) = .next t := ⟨by decide, _, rfl⟩

theorem witness_StepKeepsInvariant : State.reset.Inv ∧ ∃ t, step State.reset = .next t := ⟨by decide, _, rfl⟩

theorem witness_StepIsTicks : State.reset.halted = .running ∧ State.reset.ic = ICycle.boundary := ⟨rfl, rfl⟩

theorem witness_ConfigurationIsChecked :
    (∃ s, powerOn PowerOn.recommended smallImage = .ok s) ∧
    ∃ e, powerOn PowerOn.recommended { smallImage with mapperId := 1 } = .error e := ⟨⟨_, rfl⟩, _, rfl⟩

end Sys2Proof.Tests
end

section
/-! PROOFS of the family 00_scope. The status byte: its bits, the byte that a push leaves on top of the stack, and the flags that a
pull gives back (10_state.md R26 to R28, 92_eei_decisions.md D6). -/

namespace Sys2Proof.Machine

/-- The packed byte as a number, bit by bit (00_scope.md R10): one check for each setting of the flags and of bit 4. -/
theorem packP_toNat (f : Flags) (b : Bool) :
    (packP f b).toNat =
      128 * f.n.toNat + 64 * f.v.toNat + 32 + 16 * b.toNat + 8 * f.d.toNat + 4 * f.i.toNat + 2 * f.z.toNat + f.c.toNat := by
  obtain ⟨n, v, d, i, z, c⟩ := f
  revert n v d i z c b
  decide

/-- A byte made by bitAt has the one bit it was made of. -/
@[simp] theorem getElem_bitAt (k : Nat) (b : Bool) {j : Nat} (hj : j < 8) : (bitAt k b)[j] = (decide (j = k) && b) := by
  cases b with
  | false => simp [bitAt]
  | true =>
    simp only [bitAt, if_true, BitVec.getElem_shiftLeft, BitVec.getElem_one, Bool.and_true]
    by_cases h : j < k
    · have hne : j ≠ k := by omega
      simp only [h, hne, decide_true, decide_false, Bool.not_true, Bool.false_and]
    · have hsub : j - k = 0 ↔ j = k := by omega
      simp only [h, hsub, decide_false, Bool.not_false, Bool.true_and]

@[simp] theorem packP_bit5 (f : Flags) (b : Bool) : (packP f b).getLsbD 5 = true := by simp [packP]

@[simp] theorem packP_bit4 (f : Flags) (b : Bool) : (packP f b).getLsbD 4 = b := by simp [packP]

@[simp] theorem unpackP_packP (f : Flags) (b : Bool) : unpackP (packP f b) = f := by simp [unpackP, packP]

/-- Bits 5 and 4 of a byte do not outlast unpacking: the live status byte made of it has them at 1 and 0 (R28). -/
theorem packP_unpackP (v : Byte) : packP (unpackP v) false = (v ||| 0x20#8) &&& 0xEF#8 := by
  apply BitVec.eq_of_getLsbD_eq
  intro j hj
  match j, hj with
  | 0, _ | 1, _ | 2, _ | 3, _ | 4, _ | 5, _ | 6, _ | 7, _ => simp [packP, unpackP]

/-- The byte pushed last is on top of the stack. -/
theorem State.peek_push_top (s : State) (v : Byte) : (s.push v).peek (stackAddr ((s.push v).sp + 1)) = some v := by
  have hsp : (s.push v).sp + 1 = s.sp := sub_add_cancel_one s.sp
  rw [hsp, State.peek_push, State.peek_onWrite_same, State.writable_stack, if_pos rfl]

/-- Taking an exception leaves the status byte on top of the stack: it is pushed last, and the vector fetch only reads. -/
theorem State.peek_enterVector_top (s : State) (b : Bool) (vec : Word) :
    (s.enterVector b vec).peek (stackAddr ((s.enterVector b vec).sp + 1)) = some (packP s.flags b) :=
  State.peek_push_top ((s.push (hi s.pc)).push (lo s.pc)) (packP s.flags b)

/-- PHP, BRK and the interrupt sequences leave a packed status byte on top of the stack. -/
theorem peek_top_of_pushes_status {i : Instr} {s t : State}
    (h : (i = .php ∨ i = .brk) ∧ exec i s = .next t ∨ ∃ k, t = s.interruptSequence k) :
    ∃ b, t.peek (stackAddr (t.sp + 1)) = some (packP s.flags b) := by
  obtain ⟨rfl | rfl, ht⟩ | ⟨k, rfl⟩ := h
  case inl.inl =>
    cases ht
    exact ⟨true, State.peek_push_top (stackPrefix s) _⟩
  case inl.inr =>
    cases ht
    exact ⟨true, State.peek_enterVector_top s.fetchOpcode.onFetch true _⟩
  case inr => exact ⟨false, State.peek_enterVector_top ((s.beginSequence.onRead s.pc).onRead s.pc) false _⟩

/-- The byte that a pull returns depends on the RAM array and S alone. -/
theorem State.pullValue_congr {s t : State} (hr : t.ram = s.ram) (hsp : t.sp = s.sp) : t.pullValue = s.pullValue := by
  simp [State.pullValue, hr, hsp]

/-- PLP and RTI unpack their flags from the byte on top of the stack: what they read before the pull leaves it there. -/
theorem exec_flags_of_pulls_status {i : Instr} (hi : i ∈ [Instr.plp, .rti]) (s : State) :
    ∃ t, exec i s = .next t ∧ t.flags = unpackP s.pullValue := by
  have hpull : (stackPrefix s).touchStack.pullValue = s.pullValue := State.pullValue_congr rfl rfl
  simp only [List.mem_cons, List.not_mem_nil, or_false] at hi
  obtain rfl | rfl := hi
  · exact ⟨_, rfl, congrArg unpackP hpull⟩
  · obtain ⟨hr, -⟩ := State.returnFromVector_eq (stackPrefix s).touchStack
    exact ⟨_, rfl, (congrArg Registers.flags hr).trans (congrArg unpackP hpull)⟩

/-- Settles O50: the clauses are the layout of the packed byte, the live byte and the trace view as packed bytes, the byte that a
push leaves on top of the stack, and the flags that a pull takes from there. -/
theorem statusByte : Obligations.StatusByte := by
  unfold Obligations.StatusByte
  refine ⟨fun f b => ⟨packP_toNat f b, packP_bit5 f b, unpackP_packP f b⟩,
    fun s => ⟨packP_bit5 s.flags false, packP_bit5 s.flags false, packP_bit4 s.flags false⟩, ?pushed, ?pulled⟩
  case pushed =>
    intro s t i h
    obtain ⟨b, hb⟩ := peek_top_of_pushes_status h
    exact ⟨packP s.flags b, hb, packP_bit5 s.flags b⟩
  case pulled =>
    intro s v hv i hi
    obtain ⟨t, ht, hf⟩ := exec_flags_of_pulls_status hi s
    refine ⟨t, ht, ?_⟩
    rw [State.p, hf, State.pullValue, State.readValue_of_peek hv, packP_unpackP]

end Sys2Proof.Machine
end

section
/-! PROOFS of the family 10_state, the forms. Every instruction runs in one of the shared forms or in one of the eleven sequences of
its own; said once, with the executor that the mnemonic selects (40_instruction_cycle.md R143, R144). -/

namespace Sys2Proof.Machine

/-- The implied instructions have no operand. -/
theorem operand_implied {i : Instr} {exe : State → State} (he : executorOf i.mnemonic = .implied exe) : i.operand = .imp := by
  cases i <;> cases he <;> rfl

/-- A NOP without an operand runs as an implied instruction that updates nothing (R326, R371). -/
theorem exec_nop_imp {i : Instr} (hm : i.mnemonic = .nop) (ho : i.operand = .imp) (s : State) : exec i s = impInstr nopOp s := by
  cases i <;> cases hm <;> cases ho <;> rfl

/-- The form in which exec runs an instruction: a sequence of its own, or a shared form with the executor of its mnemonic. -/
inductive HasForm : Instr → Prop
  | brk : HasForm .brk
  | rti : HasForm .rti
  | rts : HasForm .rts
  | pha : HasForm .pha
  | php : HasForm .php
  | pla : HasForm .pla
  | plp : HasForm .plp
  | jsr (a : Word) : HasForm (.jsr a)
  | jmpAbs (a : Word) : HasForm (.jmpAbs a)
  | jmpInd (p : Word) : HasForm (.jmpInd p)
  | jam (k : Fin 12) : HasForm (.jam k)
  | readMem {i : Instr} (m : MemMode) (exe : Byte → State → State) (he : executorOf i.mnemonic = .read exe)
      (hl : i.length = m.mode.length) (hx : ∀ s, exec i s = readInstr m exe s) : HasForm i
  | readImm {i : Instr} (d : Byte) (exe : Byte → State → State) (he : executorOf i.mnemonic = .read exe)
      (hl : i.length = 2) (hx : ∀ s, exec i s = immInstr d exe s) : HasForm i
  | nopImp {i : Instr} (he : executorOf i.mnemonic = .read nopReadOp)
      (hl : i.length = 1) (hx : ∀ s, exec i s = impInstr nopOp s) : HasForm i
  | write {i : Instr} (m : MemMode) (v : State → Byte) (he : executorOf i.mnemonic = .write v)
      (hl : i.length = m.mode.length) (hx : ∀ s, exec i s = writeInstr m v s) : HasForm i
  | highAnd {i : Instr} (m : MemMode) (r : State → Byte) (exe : State → State) (he : executorOf i.mnemonic = .highAnd r exe)
      (hl : i.length = m.mode.length)
      (hx : ∀ s, exec i s =
        .next (exe ((m.beforeWrite s).onWrite (m.highAndEa (r s) s) (highAndValue (m.base s) (r s))))) : HasForm i
  | rmwMem {i : Instr} (m : MemMode) (f : Byte → State → Byte) (exe : Byte → State → State) (acc : State → State)
      (he : executorOf i.mnemonic = .rmw f exe acc) (hl : i.length = m.mode.length)
      (hx : ∀ s, exec i s = rmwInstr m f exe s) : HasForm i
  | rmwAcc {i : Instr} (f : Byte → State → Byte) (exe : Byte → State → State) (acc : State → State)
      (he : executorOf i.mnemonic = .rmw f exe acc) (hl : i.length = 1) (hx : ∀ s, exec i s = impInstr acc s) : HasForm i
  | implied {i : Instr} (exe : State → State) (he : executorOf i.mnemonic = .implied exe)
      (hl : i.length = 1) (hx : ∀ s, exec i s = impInstr exe s) : HasForm i
  | branch {i : Instr} (taken : State → Bool) (d : Byte) (he : executorOf i.mnemonic = .branch taken)
      (hl : i.length = 2) (hx : ∀ s, exec i s = branchInstr (taken s) d s) : HasForm i

/-- The executors with a sequence of accesses of their own (R144, C7). -/
def Executor.ownSequence : Executor → Bool
  | .jmp | .jsr | .rts | .rti | .brk | .pha | .php | .pla | .plp | .jam => true
  | .read _ | .write _ | .highAnd _ _ | .rmw _ _ _ | .implied _ | .branch _ => false

theorem hasForm_of_ownSequence {i : Instr} (h : (executorOf i.mnemonic).ownSequence = true) : HasForm i := by
  cases i <;> cases h <;> constructor

/-- An instruction is as long as its operand's mode says. -/
theorem length_of_operand {i : Instr} {o : Operand} (ho : i.operand = o) : i.length = o.mode.length :=
  congrArg (fun o => o.mode.length) ho

theorem hasForm (i : Instr) : HasForm i := by
  cases he : executorOf i.mnemonic with
  | read exe =>
    obtain ⟨m, ho⟩ | ⟨d, ho⟩ | ⟨hm, ho⟩ := operand_read he
    · exact .readMem m exe he (length_of_operand ho) (exec_read_mem ho he)
    · exact .readImm d exe he (length_of_operand ho) (exec_read_imm ho he)
    · exact .nopImp (congrArg executorOf hm) (length_of_operand ho) (exec_nop_imp hm ho)
  | write v =>
    obtain ⟨m, ho⟩ := operand_write he
    exact .write m v he (length_of_operand ho) (exec_write ho he)
  | highAnd r exe =>
    obtain ⟨m, ho⟩ := operand_highAnd he
    exact .highAnd m r exe he (length_of_operand ho) (exec_highAnd ho he)
  | rmw f exe acc =>
    obtain ⟨m, ho⟩ | ho := operand_rmw he
    · exact .rmwMem m f exe acc he (length_of_operand ho) (exec_rmw_mem ho he)
    · exact .rmwAcc f exe acc he (length_of_operand ho) (exec_rmw_acc ho he)
  | implied exe => exact .implied exe he (length_of_operand (operand_implied he)) (exec_implied he)
  | branch taken =>
    obtain ⟨d, ho⟩ := operand_branch he
    exact .branch taken d he (length_of_operand ho) (exec_branch ho he)
  | jmp | jsr | rts | rti | brk | pha | php | pla | plp | jam =>
    exact hasForm_of_ownSequence (congrArg Executor.ownSequence he)

end Sys2Proof.Machine
end

section
/-! PROOFS of the family 10_state, the writers. What an executor can leave in the register file, so which mnemonics can change which
register and flag (10_state.md R21 to R25, R29). -/

namespace Sys2Proof.Machine

open Sys2Proof.Claims

/-- The register files that an executor can leave from one whose PC is the address of the next instruction: what its update does to
the registers of a state, and for the sequences of their own the registers they load, with any values. -/
inductive Executor.Leaves : Executor → Registers → Registers → Prop
  | read (exe : Byte → State → State) (m : Byte) (u : State) : Leaves (.read exe) u.registers (exe m u).registers
  | write (v : State → Byte) (r : Registers) : Leaves (.write v) r r
  | highAnd (v : State → Byte) (exe : State → State) (u : State) : Leaves (.highAnd v exe) u.registers (exe u).registers
  | rmw (f : Byte → State → Byte) (exe : Byte → State → State) (acc : State → State) (m : Byte) (u : State) :
      Leaves (.rmw f exe acc) u.registers (exe m u).registers
  | acc (f : Byte → State → Byte) (exe : Byte → State → State) (acc : State → State) (u : State) :
      Leaves (.rmw f exe acc) u.registers (acc u).registers
  | implied (exe : State → State) (u : State) : Leaves (.implied exe) u.registers (exe u).registers
  | branch (taken : State → Bool) (r : Registers) (pc : Word) : Leaves (.branch taken) r { r with pc := pc }
  | jmp (r : Registers) (pc : Word) : Leaves .jmp r { r with pc := pc }
  | jsr (r : Registers) (sp : Byte) (pc : Word) : Leaves .jsr r { r with sp := sp, pc := pc }
  | rts (r : Registers) (sp : Byte) (pc : Word) : Leaves .rts r { r with sp := sp, pc := pc }
  | rti (r : Registers) (sp : Byte) (pc : Word) (flags : Flags) : Leaves .rti r { r with sp := sp, pc := pc, flags := flags }
  | brk (r : Registers) (sp : Byte) (pc : Word) :
      Leaves .brk r { r with sp := sp, pc := pc, flags := { r.flags with i := true } }
  | pha (r : Registers) (sp : Byte) : Leaves .pha r { r with sp := sp }
  | php (r : Registers) (sp : Byte) : Leaves .php r { r with sp := sp }
  | pla (r : Registers) (sp v : Byte) : Leaves .pla r { r with a := v, sp := sp, flags := r.flags.setNZ v }
  | plp (r : Registers) (sp : Byte) (flags : Flags) : Leaves .plp r { r with sp := sp, flags := flags }
  | jam (r : Registers) : Leaves .jam r r

/-! The registers that each sequence of its own leaves. -/

theorem exec_brk_registers (s : State) :
    ∃ t, exec .brk s = .next t ∧
      t.registers = { s.registers with sp := s.sp - 3#8, pc := t.pc, flags := { s.flags with i := true } } :=
  ⟨_, rfl, by simp [State.registers, State.enterVector, sub_three]⟩

theorem exec_rti_registers (s : State) :
    ∃ t, exec .rti s = .next t ∧ t.registers = { s.registers with sp := s.sp + 3#8, pc := t.pc, flags := t.flags } :=
  ⟨_, rfl, by simp [State.registers, State.returnFromVector, add_three]⟩

theorem exec_rts_registers (s : State) :
    ∃ t, exec .rts s = .next t ∧ t.registers = { s.registers with sp := s.sp + 2#8, pc := t.pc } :=
  ⟨_, rfl, by simp [State.registers, add_two]⟩

theorem exec_jsr_registers (a : Word) (s : State) :
    ∃ t, exec (.jsr a) s = .next t ∧ t.registers = { s.registers with sp := s.sp - 2#8, pc := t.pc } :=
  ⟨_, rfl, by simp [State.registers, sub_two]⟩

theorem exec_jmpAbs_registers (a : Word) (s : State) :
    ∃ t, exec (.jmpAbs a) s = .next t ∧ t.registers = { s.registers with pc := a } :=
  ⟨_, rfl, by simp [State.registers]⟩

theorem exec_jmpInd_registers (p : Word) (s : State) :
    ∃ t, exec (.jmpInd p) s = .next t ∧ t.registers = { s.registers with pc := t.pc } :=
  ⟨_, rfl, by simp [State.registers]⟩

theorem exec_pha_registers (s : State) :
    ∃ t, exec .pha s = .next t ∧ t.registers = { s.registers with sp := s.sp - 1#8, pc := s.pc + 1#16 } :=
  ⟨_, rfl, by simp [State.registers, stackPrefix]⟩

theorem exec_php_registers (s : State) :
    ∃ t, exec .php s = .next t ∧ t.registers = { s.registers with sp := s.sp - 1#8, pc := s.pc + 1#16 } :=
  ⟨_, rfl, by simp [State.registers, stackPrefix]⟩

theorem exec_pla_registers (s : State) :
    ∃ t, exec .pla s = .next t ∧
      t.registers =
        { s.registers with a := t.a, sp := s.sp + 1#8, pc := s.pc + 1#16, flags := s.flags.setNZ t.a } :=
  ⟨_, rfl, by simp [State.registers, stackPrefix]⟩

theorem exec_plp_registers (s : State) :
    ∃ t, exec .plp s = .next t ∧
      t.registers = { s.registers with sp := s.sp + 1#8, pc := s.pc + 1#16, flags := t.flags } :=
  ⟨_, rfl, by simp [State.registers, stackPrefix]⟩

/-- What exec can do to the register file, said once for every instruction: it completes, and its executor acts on the registers
with PC at the next instruction. -/
theorem exec_next_leaves (i : Instr) (s : State) :
    ∃ t, exec i s = .next t ∧ (executorOf i.mnemonic).Leaves { s.registers with pc := nextPc i s } t.registers := by
  cases hasForm i with
  | readMem m exe he hl hx =>
    obtain ⟨u, hu, hr, -⟩ := readInstr_next m exe s
    refine ⟨_, (hx s).trans hu, ?_⟩
    rw [he, nextPc, hl, ← hr]
    exact .read exe _ u
  | readImm d exe he hl hx =>
    obtain ⟨u, hu, hr, -⟩ := immInstr_next d exe s
    refine ⟨_, (hx s).trans hu, ?_⟩
    rw [he, nextPc, hl, ← hr]
    exact .read exe d u
  | nopImp he hl hx =>
    obtain ⟨u, hu, hr, -⟩ := impInstr_next nopOp s
    refine ⟨_, (hx s).trans hu, ?_⟩
    rw [he, nextPc, hl, ← hr]
    exact .read nopReadOp 0x00#8 u
  | write m v he hl hx =>
    obtain ⟨u, hu, hr, -⟩ := writeInstr_next m v s
    refine ⟨_, (hx s).trans hu, ?_⟩
    rw [he, nextPc, hl, hr]
    exact .write v _
  | highAnd m r exe he hl hx =>
    obtain ⟨u, hu, hr, -⟩ := highAndInstr_next m r s
    cases hu
    refine ⟨_, hx s, ?_⟩
    rw [he, nextPc, hl, ← hr]
    exact .highAnd r exe _
  | rmwMem m f exe acc he hl hx =>
    obtain ⟨u, hu, hr, -⟩ := rmwInstr_next m f exe s
    refine ⟨_, (hx s).trans hu, ?_⟩
    rw [he, nextPc, hl, ← hr]
    exact .rmw f exe acc _ u
  | rmwAcc f exe acc he hl hx =>
    obtain ⟨u, hu, hr, -⟩ := impInstr_next acc s
    refine ⟨_, (hx s).trans hu, ?_⟩
    rw [he, nextPc, hl, ← hr]
    exact .acc f exe acc u
  | implied exe he hl hx =>
    obtain ⟨u, hu, hr, -⟩ := impInstr_next exe s
    refine ⟨_, (hx s).trans hu, ?_⟩
    rw [he, nextPc, hl, ← hr]
    exact .implied exe u
  | branch taken d he hl hx =>
    obtain ⟨u, hu, hr, -⟩ := branchInstr_next (taken s) d s
    refine ⟨_, (hx s).trans hu, ?_⟩
    rw [he, hr]
    exact .branch taken _ _
  | brk =>
    obtain ⟨t, ht, hr⟩ := exec_brk_registers s
    exact ⟨t, ht, by rw [hr]; exact .brk _ _ _⟩
  | rti =>
    obtain ⟨t, ht, hr⟩ := exec_rti_registers s
    exact ⟨t, ht, by rw [hr]; exact .rti _ _ _ _⟩
  | rts =>
    obtain ⟨t, ht, hr⟩ := exec_rts_registers s
    exact ⟨t, ht, by rw [hr]; exact .rts _ _ _⟩
  | pha =>
    obtain ⟨t, ht, hr⟩ := exec_pha_registers s
    exact ⟨t, ht, by rw [hr]; exact .pha _ _⟩
  | php =>
    obtain ⟨t, ht, hr⟩ := exec_php_registers s
    exact ⟨t, ht, by rw [hr]; exact .php _ _⟩
  | pla =>
    obtain ⟨t, ht, hr⟩ := exec_pla_registers s
    exact ⟨t, ht, by rw [hr]; exact .pla _ _ _⟩
  | plp =>
    obtain ⟨t, ht, hr⟩ := exec_plp_registers s
    exact ⟨t, ht, by rw [hr]; exact .plp _ _ _⟩
  | jsr a =>
    obtain ⟨t, ht, hr⟩ := exec_jsr_registers a s
    exact ⟨t, ht, by rw [hr]; exact .jsr _ _ _⟩
  | jmpAbs a =>
    obtain ⟨t, ht, hr⟩ := exec_jmpAbs_registers a s
    exact ⟨t, ht, by rw [hr]; exact .jmp _ _⟩
  | jmpInd p =>
    obtain ⟨t, ht, hr⟩ := exec_jmpInd_registers p s
    exact ⟨t, ht, by rw [hr]; exact .jmp _ _⟩
  | jam k => exact ⟨_, rfl, .jam _⟩

theorem exec_leaves {i : Instr} {s t : State} (h : exec i s = .next t) :
    (executorOf i.mnemonic).Leaves { s.registers with pc := nextPc i s } t.registers := by
  obtain ⟨u, hu, hl⟩ := exec_next_leaves i s
  cases h.symm.trans hu
  exact hl

/-- What an executor leaves alone among the registers, by the mnemonic that selects it: a mnemonic outside a register's list
(R21 to R23, R25) has an executor that does not write it. -/
theorem Executor.Leaves.registers_of_not_mem {m : Mnemonic} {r r' : Registers} (h : (executorOf m).Leaves r r') :
    (m ∉ [.lda, .lax, .lxa, .las, .txa, .tya, .pla, .adc, .sbc, .usbc, .and, .ora, .eor, .asl, .lsr, .rol, .ror, .slo, .rla,
      .sre, .rra, .isc, .anc, .alr, .arr, .ane] → r'.a = r.a) ∧
    (m ∉ [.ldx, .lax, .lxa, .las, .tax, .tsx, .inx, .dex, .sbx] → r'.x = r.x) ∧
    (m ∉ [.ldy, .tay, .iny, .dey] → r'.y = r.y) ∧
    (m ∉ [.txs, .tas, .las, .pha, .php, .pla, .plp, .jsr, .rts, .rti, .brk] → r'.sp = r.sp) ∧
    (m ∉ [.jmp, .jsr, .rts, .rti, .brk, .bpl, .bmi, .bvc, .bvs, .bcc, .bcs, .bne, .beq] → r'.pc = r.pc) := by
  refine ⟨?a, ?x, ?y, ?sp, ?pc⟩
  all_goals
    intro hm
    cases m
    all_goals simp at hm
    all_goals cases h <;> rfl

/-- The same of the flags, by the columns of R29; Z and N are written together. -/
theorem Executor.Leaves.flags_of_not_mem {m : Mnemonic} {r r' : Registers} (h : (executorOf m).Leaves r r') :
    (m ∉ [.adc, .sbc, .usbc, .cmp, .cpx, .cpy, .asl, .lsr, .rol, .ror, .slo, .rla, .sre, .rra, .dcp, .isc, .anc, .alr, .arr,
      .sbx, .clc, .sec, .plp, .rti] → r'.flags.c = r.flags.c) ∧
    (m ∉ [.lda, .ldx, .ldy, .lax, .lxa, .las, .tax, .tay, .txa, .tya, .tsx, .pla, .adc, .sbc, .usbc, .and, .ora, .eor, .cmp,
      .cpx, .cpy, .inc, .dec, .inx, .iny, .dex, .dey, .asl, .lsr, .rol, .ror, .slo, .rla, .sre, .rra, .dcp, .isc, .anc, .alr,
      .arr, .ane, .sbx, .bit, .plp, .rti] → (r'.flags.z, r'.flags.n) = (r.flags.z, r.flags.n)) ∧
    (m ∉ [.sei, .cli, .plp, .rti, .brk] → r'.flags.i = r.flags.i) ∧
    (m ∉ [.sed, .cld, .plp, .rti] → r'.flags.d = r.flags.d) ∧
    (m ∉ [.adc, .sbc, .usbc, .rra, .isc, .arr, .bit, .clv, .plp, .rti] → r'.flags.v = r.flags.v) := by
  refine ⟨?c, ?zn, ?i, ?d, ?v⟩
  all_goals
    intro hm
    cases m
    all_goals simp at hm
    all_goals cases h <;> rfl

/-- Settles O51: what exec leaves is what its executor leaves of the registers with PC at the next instruction. -/
theorem registerWriters : Obligations.RegisterWriters := by
  unfold Obligations.RegisterWriters
  intro i s t h
  obtain ⟨ha, hx, hy, hsp, hpc⟩ := (exec_leaves h).registers_of_not_mem
  exact ⟨Decidable.not_imp_comm.1 ha, Decidable.not_imp_comm.1 hx, Decidable.not_imp_comm.1 hy,
    Decidable.not_imp_comm.1 hsp, Decidable.not_imp_comm.1 hpc⟩

/-- Settles O52: as for the registers, flag by flag. -/
theorem flagWriters : Obligations.FlagWriters := by
  unfold Obligations.FlagWriters
  intro i s t h
  obtain ⟨hc, hzn, hi, hd, hv⟩ := (exec_leaves h).flags_of_not_mem
  refine ⟨Decidable.not_imp_comm.1 hc, fun hne => Decidable.not_imp_comm.1 hzn fun e => ?_,
    Decidable.not_imp_comm.1 hi, Decidable.not_imp_comm.1 hd, Decidable.not_imp_comm.1 hv⟩
  obtain ⟨hz, hn⟩ := Prod.mk.inj e
  exact hne.elim (· hz) (· hn)

end Sys2Proof.Machine
end

section
/-! PROOFS of the family 10_state, the D flag. Every bus operation, addressing mode and executor commutes with a change of D, but for
the instructions that store or load the status byte or write D (10_state.md R31). -/

namespace Sys2Proof.Machine

open Sys2Proof.Claims

@[simp] theorem withD_pc (s : State) (b : Bool) : (withD s b).pc = s.pc := rfl
@[simp] theorem readValue_withD (s : State) (b : Bool) (a : Word) : (withD s b).readValue a = s.readValue a := rfl
@[simp] theorem pullValue_withD (s : State) (b : Bool) : (withD s b).pullValue = s.pullValue := rfl
@[simp] theorem onRead_withD (s : State) (b : Bool) (a : Word) : (withD s b).onRead a = withD (s.onRead a) b := rfl
@[simp] theorem onWrite_withD (s : State) (b : Bool) (a : Word) (v : Byte) :
    (withD s b).onWrite a v = withD (s.onWrite a v) b := rfl
@[simp] theorem onFetch_withD (s : State) (b : Bool) : (withD s b).onFetch = withD s.onFetch b := rfl
@[simp] theorem fetchOpcode_withD (s : State) (b : Bool) : (withD s b).fetchOpcode = withD s.fetchOpcode b := rfl
@[simp] theorem push_withD (s : State) (b : Bool) (v : Byte) : (withD s b).push v = withD (s.push v) b := rfl
@[simp] theorem onPull_withD (s : State) (b : Bool) : (withD s b).onPull = withD s.onPull b := rfl
@[simp] theorem touchStack_withD (s : State) (b : Bool) : (withD s b).touchStack = withD s.touchStack b := rfl

@[simp] theorem ea_withD (m : MemMode) (s : State) (b : Bool) : m.ea (withD s b) = m.ea s := rfl
@[simp] theorem base_withD (m : MemMode) (s : State) (b : Bool) : m.base (withD s b) = m.base s := rfl
@[simp] theorem pre_withD (m : MemMode) (s : State) (b : Bool) : m.pre (withD s b) = m.pre s := rfl
@[simp] theorem crossed_withD (m : MemMode) (s : State) (b : Bool) : m.crossed (withD s b) = m.crossed s := rfl
@[simp] theorem highAndEa_withD (m : MemMode) (r : Byte) (s : State) (b : Bool) :
    m.highAndEa r (withD s b) = m.highAndEa r s := rfl

@[simp] theorem resolve_withD (m : MemMode) (s : State) (b : Bool) : m.resolve (withD s b) = withD (m.resolve s) b := by
  cases m <;> rfl

@[simp] theorem beforeRead_withD (m : MemMode) (s : State) (b : Bool) :
    m.beforeRead (withD s b) = withD (m.beforeRead s) b := by
  simp [MemMode.beforeRead, apply_ite (withD · b)]

@[simp] theorem beforeWrite_withD (m : MemMode) (s : State) (b : Bool) :
    m.beforeWrite (withD s b) = withD (m.beforeWrite s) b := by
  simp [MemMode.beforeWrite, apply_ite (withD · b)]

@[simp] theorem operandRead_withD (m : MemMode) (s : State) (b : Bool) : m.operandRead (withD s b) = m.operandRead s := by
  simp [MemMode.operandRead]

@[simp] theorem operandRmw_withD (m : MemMode) (s : State) (b : Bool) : m.operandRmw (withD s b) = m.operandRmw s := by
  simp [MemMode.operandRmw]

@[simp] theorem rmwAccesses_withD (m : MemMode) (f : Byte) (s : State) (b : Bool) :
    m.rmwAccesses f (withD s b) = withD (m.rmwAccesses f s) b := by
  simp [MemMode.rmwAccesses]

/-- An update of the state does not look at D and leaves it alone. -/
def CommutesWithD (exe : State → State) : Prop := ∀ s b, exe (withD s b) = withD (exe s) b

/-- A value of the state does not depend on D. -/
def IndependentOfD {α : Type} (f : State → α) : Prop := ∀ s b, f (withD s b) = f s

/-- The executors that neither look at D nor change it: those of a shared form by what they are made of, and the sequences of
their own that do not push or pull the status byte. -/
inductive Executor.IgnoresD : Executor → Prop
  | read {exe : Byte → State → State} (h : ∀ m, CommutesWithD (exe m)) : IgnoresD (.read exe)
  | write {v : State → Byte} (h : IndependentOfD v) : IgnoresD (.write v)
  | highAnd {r : State → Byte} {exe : State → State} (hr : IndependentOfD r) (h : CommutesWithD exe) :
      IgnoresD (.highAnd r exe)
  | rmw {f : Byte → State → Byte} {exe : Byte → State → State} {acc : State → State} (hf : ∀ m, IndependentOfD (f m))
      (h : ∀ m, CommutesWithD (exe m)) (hacc : CommutesWithD acc) : IgnoresD (.rmw f exe acc)
  | implied {exe : State → State} (h : CommutesWithD exe) : IgnoresD (.implied exe)
  | branch {taken : State → Bool} (h : IndependentOfD taken) : IgnoresD (.branch taken)
  | jmp : IgnoresD .jmp
  | jsr : IgnoresD .jsr
  | rts : IgnoresD .rts
  | pha : IgnoresD .pha
  | pla : IgnoresD .pla
  | jam : IgnoresD .jam

/-- Only the listed mnemonics load or store the status byte or write D; the executor of every other one is written without D. -/
theorem ignoresD_of_not_mem {m : Mnemonic} (hm : m ∉ [.sed, .cld, .plp, .rti, .php, .brk]) : (executorOf m).IgnoresD := by
  cases m
  all_goals simp at hm
  all_goals
    constructor
    all_goals intros; intro s b; rfl

/-- A run from another D flag leaves the same next state, with that D flag. -/
def RunIgnoresD (run : State → Host.Outcome State Fault Refusal) : Prop :=
  ∀ s t b, run s = .next t → run (withD s b) = .next (withD t b)

theorem runIgnoresD_readInstr (m : MemMode) {exe : Byte → State → State} (h : ∀ v, CommutesWithD (exe v)) :
    RunIgnoresD (readInstr m exe) := by
  rintro s t b ⟨⟩
  simp [readInstr, h _ _ b]

theorem runIgnoresD_immInstr (d : Byte) {exe : Byte → State → State} (h : ∀ v, CommutesWithD (exe v)) :
    RunIgnoresD (immInstr d exe) := by
  rintro s t b ⟨⟩
  simp [immInstr, h _ _ b]

theorem runIgnoresD_impInstr {exe : State → State} (h : CommutesWithD exe) : RunIgnoresD (impInstr exe) := by
  rintro s t b ⟨⟩
  simp [impInstr, h _ b]

theorem runIgnoresD_writeInstr (m : MemMode) {v : State → Byte} (h : IndependentOfD v) : RunIgnoresD (writeInstr m v) := by
  rintro s t b ⟨⟩
  simp [writeInstr, h s b]

theorem runIgnoresD_rmwInstr (m : MemMode) {f : Byte → State → Byte} {exe : Byte → State → State}
    (hf : ∀ v, IndependentOfD (f v)) (h : ∀ v, CommutesWithD (exe v)) : RunIgnoresD (rmwInstr m f exe) := by
  rintro s t b ⟨⟩
  simp [rmwInstr, hf _ s b, h _ _ b]

theorem runIgnoresD_branchInstr (taken : Bool) (d : Byte) : RunIgnoresD (branchInstr taken d) := by
  intro s t b h
  cases taken with
  | false =>
    cases h
    rfl
  | true =>
    simp only [branchInstr, Bool.not_true, Bool.false_eq_true, if_false, fetchOpcode_withD, onFetch_withD, withD_pc] at h ⊢
    split at h
    · rename_i hp
      cases h
      exact if_pos hp
    · rename_i hp
      cases h
      exact if_neg hp

/-- Every instruction but those that load or store the status byte or write D runs the same whatever D is. -/
theorem exec_withD {i : Instr} (hm : i.mnemonic ∉ [.sed, .cld, .plp, .rti, .php, .brk]) : RunIgnoresD (exec i) := by
  have hd := ignoresD_of_not_mem hm
  cases hasForm i with
  | readMem m exe he hl hx =>
    cases he ▸ hd with
    | read hexe => exact funext hx ▸ runIgnoresD_readInstr m hexe
  | readImm d exe he hl hx =>
    cases he ▸ hd with
    | read hexe => exact funext hx ▸ runIgnoresD_immInstr d hexe
  | nopImp he hl hx => exact funext hx ▸ runIgnoresD_impInstr fun _ _ => rfl
  | write m v he hl hx =>
    cases he ▸ hd with
    | write hv => exact funext hx ▸ runIgnoresD_writeInstr m hv
  | highAnd m r exe he hl hx =>
    cases he ▸ hd with
    | highAnd hr hexe =>
      intro s t b h
      rw [hx] at h ⊢
      cases h
      simp [hr s b, hexe _ b]
  | rmwMem m f exe acc he hl hx =>
    cases he ▸ hd with
    | rmw hf hexe hacc => exact funext hx ▸ runIgnoresD_rmwInstr m hf hexe
  | rmwAcc f exe acc he hl hx =>
    cases he ▸ hd with
    | rmw hf hexe hacc => exact funext hx ▸ runIgnoresD_impInstr hacc
  | implied exe he hl hx =>
    cases he ▸ hd with
    | implied hexe => exact funext hx ▸ runIgnoresD_impInstr hexe
  | branch taken d he hl hx =>
    cases he ▸ hd with
    | branch htaken =>
      intro s t b h
      rw [hx] at h ⊢
      rw [htaken]
      exact runIgnoresD_branchInstr (taken s) d s t b h
  | jsr | rts | jmpAbs | jmpInd | pha | pla | jam =>
    rintro s t b ⟨⟩
    rfl
  | brk | rti | php | plp => simp [Instr.mnemonic] at hm

/-- Settles O55: an instruction outside the six runs in a form, or a sequence, that commutes with a change of D. -/
theorem decimalFlagHasNoEffect : Obligations.DecimalFlagHasNoEffect := by
  unfold Obligations.DecimalFlagHasNoEffect
  intro i s t b hm h
  exact exec_withD hm s t b h

end Sys2Proof.Machine
end

section
/-! PROOFS of the family 10_state, the interrupts. What the arbiter selects, the step that takes it, and the words at the vectors;
with them the I flag, power-on and the reset state (10_state.md R30, R48; 60_exceptions.md R404, R407). -/

namespace Sys2Proof.Machine

open Sys2Proof.Claims

theorem arbitrate_of_nmi {s : State} (hn : s.nmiPending = true) : s.arbitrate = some .nmi := by
  simp [State.arbitrate, hn]

theorem arbitrate_of_irq {s : State} (hn : s.nmiPending = false) (hq : s.irqLine = true) (hi : s.flags.i = false) :
    s.arbitrate = some .irq := by
  simp [State.arbitrate, hn, hq, hi]

theorem arbitrate_of_reset {s : State} (hn : s.nmiPending = false) (hq : s.irqLine = false ∨ s.flags.i = true)
    (hr : s.resetPending = true) : s.arbitrate = some .reset := by
  obtain hq | hi := hq
  · simp [State.arbitrate, hn, hq, hr]
  · simp [State.arbitrate, hn, hi, hr]

theorem arbitrate_of_quiet {s : State} (h : LinesQuiet s) : s.arbitrate = none := by
  obtain ⟨hn, hq | hi, hr⟩ := h
  · simp [State.arbitrate, hn, hq, hr]
  · simp [State.arbitrate, hn, hi, hr]

@[simp] theorem State.consume_irq (s : State) : s.consume .irq = s := rfl

theorem step_of_atFetch {s : State} (h : AtFetch s) : step s = fromBoundary s := by
  obtain ⟨hrun, hfetch⟩ := h
  simp [step, transition, hrun, hfetch, haltFault]

/-- The interrupt that the arbiter selects is taken in one step. -/
theorem step_of_interrupt {s : State} {k : IntKind} (h : AtFetch s) (hk : s.arbitrate = some k) :
    step s = .next ((s.consume k).interruptSequence k) := by
  simp [step_of_atFetch h, fromBoundary, hk]

/-- With nothing for the arbiter to select, a step is an ordinary instruction. -/
theorem step_of_quiet {s : State} (h : AtFetch s) (hq : LinesQuiet s) : step s = runInstruction s := by
  simp [step_of_atFetch h, fromBoundary, arbitrate_of_quiet hq]

/-- A byte of program ROM, as a read and as memory: the one at the address modulo the size (20_memory.md R72). -/
theorem State.readValue_prgRom (s : State) {a : Word} (h : 0x8000 ≤ a.toNat) :
    s.readValue a = s.cart.prgRom.read (a.toNat % s.cart.prgRomSize) := by
  simp [State.readValue, State.cellAt_of_ge s h, cpuRead, Cartridge.prgRomSize, Nat.and_two_pow_sub_one_eq_mod]

theorem State.peek_prgRom (s : State) {a : Word} (h : 0x8000 ≤ a.toNat) : s.peek a = some (s.readValue a) := by
  simp [State.peek, State.readValue, State.cellAt_of_ge s h]

/-- The handler address that the statements speak of is the one that an interrupt sequence loads. -/
theorem vectorWord_vector (s : State) (k : IntKind) :
    vectorWord s k.vector = w16 (s.readValue (k.vector + 1)) (s.readValue k.vector) := by
  obtain ⟨hlow, hhigh⟩ := k.vector_ge
  simp [vectorWord, wordAt, State.peek_prgRom s hlow, State.peek_prgRom s hhigh]

/-- The handler addresses depend on the cartridge alone. -/
theorem vectorWord_congr {s u : State} (hc : u.cart = s.cart) (k : IntKind) :
    vectorWord u k.vector = vectorWord s k.vector := by
  obtain ⟨hlow, hhigh⟩ := k.vector_ge
  rw [vectorWord_vector, vectorWord_vector, State.readValue_of_ge hc hlow]
  exact congrArg (w16 · _) (State.readValue_of_ge hc hhigh)

@[simp] theorem State.consume_cart (s : State) (k : IntKind) : (s.consume k).cart = s.cart := by cases k <;> rfl

/-- An interrupt is taken with PC at its handler, as any state with that cartridge has it. -/
theorem step_pc_of_interrupt {s u : State} {k : IntKind} (h : AtFetch u) (hk : u.arbitrate = some k) (hc : u.cart = s.cart) :
    ∃ t, step u = .next t ∧ t.pc = vectorWord s k.vector := by
  obtain ⟨hr, -⟩ := State.interruptSequence_eq (u.consume k) k
  refine ⟨_, step_of_interrupt h hk, (congrArg Registers.pc hr).trans ?_⟩
  rw [← vectorWord_congr ((u.consume_cart k).trans hc), vectorWord_vector]
  rfl

@[simp] theorem packP_bit2 (f : Flags) (b : Bool) : (packP f b).getLsbD 2 = f.i := congrArg Flags.i (unpackP_packP f b)

/-- BRK and the interrupt sequences leave I set. -/
theorem flags_i_of_enters {s t : State} (h : exec .brk s = .next t ∨ ∃ k, t = s.interruptSequence k) : t.flags.i = true := by
  obtain h | ⟨k, rfl⟩ := h
  · cases h
    rfl
  · rfl

/-- Settles O49: the arbiter's choice by the lines and I, then the status byte on top of the stack. -/
theorem interruptDisableFlag : Obligations.InterruptDisableFlag := by
  unfold Obligations.InterruptDisableFlag
  intro s hs
  refine ⟨?irq, ?nmi, ?reset, ?entered⟩
  case irq =>
    rintro ⟨hn, hr, hq⟩
    refine ⟨fun hi => ?_, fun hi => ?_⟩
    · rw [step_of_interrupt hs (arbitrate_of_irq hn hq hi), State.consume_irq]
    · have hquiet : LinesQuiet s := ⟨hn, .inr hi, hr⟩
      exact ⟨arbitrate_of_quiet hquiet, step_of_quiet hs hquiet⟩
  case nmi =>
    intro b hn
    exact step_pc_of_interrupt (k := .nmi) hs (arbitrate_of_nmi hn) rfl
  case reset =>
    rintro b ⟨hn, hq, hr⟩
    exact step_pc_of_interrupt (k := .reset) hs (arbitrate_of_reset hn (.inl hq) hr) rfl
  case entered =>
    intro t h
    obtain ⟨b, hb⟩ := peek_top_of_pushes_status (i := .brk) (h.imp_left fun h => ⟨.inr rfl, h⟩)
    exact ⟨flags_i_of_enters h, _, hb, packP_bit2 s.flags b⟩

/-- Settles O48: at power-on RESET alone is pending, so the first step is its sequence, and the vector is read from program ROM. -/
theorem powerOnThenReset : Obligations.PowerOnThenReset := by
  unfold Obligations.PowerOnThenReset
  refine ⟨fun p c => ?_, rfl⟩
  have hfetch : AtFetch (State.powerOn p c) := ⟨rfl, rfl⟩
  have hreset : (State.powerOn p c).arbitrate = some .reset := arbitrate_of_reset rfl (.inl rfl) rfl
  obtain ⟨hregs, ⟨⟨hn, hq, hr, hic⟩, hrun⟩, hcart, hcycles, -⟩ :=
    State.interruptSequence_eq ((State.powerOn p c).consume .reset) .reset
  refine ⟨_, step_of_interrupt hfetch hreset, ?_, hcycles, hn, hq, hr, ⟨hrun, congrArg ICycle.opstate hic⟩, hcart⟩
  obtain ⟨hlow, hhigh⟩ := IntKind.vector_ge .reset
  rw [hregs, State.readValue_prgRom _ hlow, State.readValue_prgRom _ hhigh]
  rfl

/-- The blank cartridge holds nothing, so each of its memories is in canonical form, and its RAM has the largest size. -/
theorem Cartridge.blank_ok : Cartridge.Ok Cartridge.blank := by decide

/-- Settles O57: the RAM array of the reset state lists the one stack cell that the RESET sequence left nonzero. -/
theorem resetHasInvariant : Obligations.ResetHasInvariant := by
  unfold Obligations.ResetHasInvariant
  exact ⟨by decide, by decide, Cartridge.blank_ok, rfl⟩

end Sys2Proof.Machine
end

section
/-! PROOFS of the family 20_memory, the stores. What a step can do to the RAM array, the cartridge and the instruction-cycle state, said
once: they come of bus writes alone (20_memory.md R63, R73; 10_state.md R32). -/

namespace Sys2Proof.Machine

open Sys2Proof.Claims

/-- The RAM array, the cartridge and the instruction-cycle state are the same. The field lemmas of the bus operations close each part,
so that `{}` proves it of a chain of reads. -/
structure SameStore (s t : State) : Prop where
  ram : t.ram = s.ram := by simp
  cart : t.cart = s.cart := by simp
  ic : t.ic = s.ic := by simp

theorem SameStore.trans {s t u : State} (h : SameStore s t) (h' : SameStore t u) : SameStore s u :=
  ⟨h'.ram.trans h.ram, h'.cart.trans h.cart, h'.ic.trans h.ic⟩

/-- `t` comes from `s` by bus writes, between which the RAM array, the cartridge and the instruction-cycle state stay the same. -/
inductive ByStores (s : State) : State → Prop
  | same {t : State} (h : SameStore s t) : ByStores s t
  | store {t : State} (h : ByStores s t) (a : Word) (v : Byte) : ByStores s (t.onWrite a v)
  | keep {t u : State} (h : ByStores s t) (hu : SameStore t u) : ByStores s u

theorem ByStores.push {s t : State} (h : ByStores s t) (v : Byte) : ByStores s (t.push v) :=
  .keep (h.store (stackAddr t.sp) v) {}

theorem ByStores.enterVector {s t : State} (h : ByStores s t) (b : Bool) (vec : Word) : ByStores s (t.enterVector b vec) :=
  .keep (((h.push (hi t.pc)).push (lo t.pc)).push (packP t.flags b)) ⟨rfl, rfl, rfl⟩

theorem ByStores.interruptSequence {s t : State} (h : SameStore s t) (k : IntKind) : ByStores s (t.interruptSequence k) := by
  have hread : ByStores s ((t.beginSequence.onRead t.pc).onRead t.pc) := .same (h.trans {})
  exact hread.enterVector false k.vector

theorem sameStore_consume (s : State) (k : IntKind) : SameStore s (s.consume k) := by
  cases k <;> exact ⟨rfl, rfl, rfl⟩

theorem sameStore_beforeRead (m : MemMode) (s : State) : SameStore s (m.beforeRead s) := {}

theorem sameStore_beforeWrite (m : MemMode) (s : State) : SameStore s (m.beforeWrite s) := {}

theorem byStores_beforeWrite_onWrite (m : MemMode) (s : State) (a : Word) (v : Byte) :
    ByStores s ((m.beforeWrite s).onWrite a v) :=
  .store (.same (sameStore_beforeWrite m s)) a v

theorem byStores_rmwAccesses (m : MemMode) (v : Byte) (s : State) : ByStores s (m.rmwAccesses v s) := by
  have hread : ByStores s ((m.beforeWrite s).onRead (m.ea s)) := .same ((sameStore_beforeWrite m s).trans {})
  exact (hread.store _ _).store _ _

theorem sameStore_stackPrefix (s : State) : SameStore s (stackPrefix s) := by
  constructor <;> simp [stackPrefix]

theorem sameStore_returnFromVector (s : State) : SameStore s s.returnFromVector := by
  obtain ⟨-, ⟨⟨-, -, -, hic⟩, -⟩, hram, hcart, -⟩ := s.returnFromVector_eq
  exact ⟨hram, hcart, hic⟩

theorem byStores_branchInstr {taken : Bool} {d : Byte} {s t : State} (h : branchInstr taken d s = .next t) : ByStores s t := by
  obtain ⟨u, hu, -, ⟨⟨-, -, -, hic⟩, -⟩, hram, hcart, -⟩ := branchInstr_next taken d s
  cases hu.symm.trans h
  exact .same ⟨hram, hcart, hic⟩

/-- The updates of the registers and flags that the executor of a shared form makes. -/
inductive Executor.Update : Executor → (State → State) → Prop
  | read (exe : Byte → State → State) (m : Byte) : Update (.read exe) (exe m)
  | highAnd (r : State → Byte) (exe : State → State) : Update (.highAnd r exe) exe
  | rmw (f : Byte → State → Byte) (exe : Byte → State → State) (acc : State → State) (m : Byte) : Update (.rmw f exe acc) (exe m)
  | acc (f : Byte → State → Byte) (exe : Byte → State → State) (acc : State → State) : Update (.rmw f exe acc) acc
  | implied (exe : State → State) : Update (.implied exe) exe

theorem sameStore_of_update {m : Mnemonic} {exe : State → State} (h : (executorOf m).Update exe) (s : State) :
    SameStore s (exe s) := by
  cases m <;> cases h <;> exact ⟨rfl, rfl, rfl⟩

/-- What exec can do to memory, said once for every instruction: the stores of its form or of its own sequence. -/
theorem exec_byStores {i : Instr} {s t : State} (h : exec i s = .next t) : ByStores s t := by
  have hupdate {exe : State → State} (he : (executorOf i.mnemonic).Update exe) {u : State} (hu : ByStores s u) :
      ByStores s (exe u) := hu.keep (sameStore_of_update he u)
  cases hasForm i with
  | readMem m exe he hl hx =>
    cases (hx s).symm.trans h
    exact hupdate (he ▸ .read exe _) (.same ((sameStore_beforeRead m s).trans {}))
  | readImm d exe he hl hx =>
    cases (hx s).symm.trans h
    exact hupdate (he ▸ .read exe d) (.same {})
  | nopImp he hl hx =>
    cases (hx s).symm.trans h
    exact .same ⟨rfl, rfl, rfl⟩
  | write m v he hl hx =>
    cases (hx s).symm.trans h
    exact byStores_beforeWrite_onWrite m s _ _
  | highAnd m r exe he hl hx =>
    cases (hx s).symm.trans h
    exact hupdate (he ▸ .highAnd r exe) (byStores_beforeWrite_onWrite m s _ _)
  | rmwMem m f exe acc he hl hx =>
    cases (hx s).symm.trans h
    exact hupdate (he ▸ .rmw f exe acc _) (byStores_rmwAccesses m _ s)
  | rmwAcc f exe acc he hl hx =>
    cases (hx s).symm.trans h
    exact hupdate (he ▸ .acc f exe acc) (.same {})
  | implied exe he hl hx =>
    cases (hx s).symm.trans h
    exact hupdate (he ▸ .implied exe) (.same {})
  | branch taken d he hl hx => exact byStores_branchInstr ((hx s).symm.trans h)
  | rts | jmpAbs | jmpInd =>
    cases h
    exact .same {}
  | jam =>
    cases h
    exact .same ⟨rfl, rfl, rfl⟩
  | rti =>
    cases h
    have hbefore : SameStore s (stackPrefix s).touchStack := (sameStore_stackPrefix s).trans {}
    have hreturn := sameStore_returnFromVector (stackPrefix s).touchStack
    exact .same (hbefore.trans hreturn)
  | pla | plp =>
    cases h
    exact .same ((sameStore_stackPrefix s).trans {})
  | brk =>
    cases h
    have hfetch : ByStores s s.fetchOpcode.onFetch := .same {}
    exact hfetch.enterVector true Config.irqVector
  | pha | php =>
    cases h
    exact (ByStores.same (sameStore_stackPrefix s)).push _
  | jsr a =>
    cases h
    have hbefore : ByStores s s.fetchOpcode.onFetch.touchStack := .same {}
    have hpushes := (hbefore.push (hi (s.pc + 1#16 + 1#16))).push (lo (s.pc + 1#16 + 1#16))
    exact hpushes.keep {}

/-- What a step from a boundary can do to memory: the three pushes of an interrupt sequence, or the stores of an instruction. -/
theorem step_byStores {s t : State} (hs : AtFetch s) (h : step s = .next t) : ByStores s t := by
  rw [step_of_atFetch hs] at h
  unfold fromBoundary runInstruction at h
  split at h
  case h_1 k _ =>
    cases h
    exact .interruptSequence (sameStore_consume s k) k
  case h_2 =>
    split at h
    · exact exec_byStores h
    · cases h
      exact .same ⟨rfl, rfl, rfl⟩

/-- A halted block does not step (60_exceptions.md R420). -/
theorem running_of_step {s t : State} (h : step s = .next t) : s.halted = .running := by
  cases hh : s.halted with
  | running => rfl
  | jam op => simp [step, hh, haltFault] at h
  | unknownOpcode op => simp [step, hh, haltFault] at h

/-- A step from a state with the invariant is one from a boundary. -/
theorem atFetch_of_inv {s t : State} (hs : s.Inv) (h : step s = .next t) : AtFetch s := by
  obtain ⟨-, -, -, hic⟩ := hs
  exact ⟨running_of_step h, congrArg ICycle.opstate hic⟩

/-- Bus writes keep the invariant: each stores in canonical form, at a cell that exists. -/
theorem ByStores.inv {s t : State} (h : ByStores s t) (hs : s.Inv) : t.Inv := by
  have hsame {u w : State} (hw : SameStore u w) (hu : u.Inv) : w.Inv := by
    rwa [State.Inv, hw.ram, hw.cart, hw.ic]
  induction h with
  | same h => exact hsame h hs
  | store _ a v ih =>
    obtain ⟨hwf, hwithin, hcart, hic⟩ := ih
    obtain ⟨hwf', hwithin'⟩ := ram_onWrite a v hwf hwithin
    exact ⟨hwf', hwithin', cartOk_onWrite a v hcart, hic⟩
  | keep _ hu ih => exact hsame hu ih

/-- Bus writes change nothing of the cartridge but its RAM (20_memory.md R73). -/
theorem ByStores.cart_eq {s t : State} (h : ByStores s t) : t.cart = { s.cart with prgRam := t.cart.prgRam } := by
  induction h with
  | same h => rw [h.cart]
  | store _ a v ih => rw [cart_onWrite, ih]
  | keep _ hu ih => rw [hu.cart, ← ih]

/-- Settles O56: the boundary is a FETCH, from which a step changes memory by bus writes alone, and they keep the invariant. -/
theorem stepKeepsInvariant : Obligations.StepKeepsInvariant := by
  unfold Obligations.StepKeepsInvariant
  intro s t hs h
  exact (step_byStores (atFetch_of_inv hs h) h).inv hs

/-- Settles O54: a step changes the cartridge by bus writes alone, and they reach only its RAM. -/
theorem romAndCharacterMemoryAreNeverWritten : Obligations.RomAndCharacterMemoryAreNeverWritten := by
  unfold Obligations.RomAndCharacterMemoryAreNeverWritten
  intro s t hs h
  exact (step_byStores hs h).cart_eq

end Sys2Proof.Machine
end

section
/-! PROOFS of the family 20_memory, the bus. Which cell answers at an address, and what a read and a write do at a cell of each kind
(20_memory.md R62 to R68, R72 to R74). -/

namespace Sys2Proof.Machine

/-! Mirroring (R62). -/

theorem mirror_of_le {a : Word} (h : a.toNat ≤ 0x1FFF) : mirror a = a &&& 0x07FF#16 := if_pos h

theorem toNat_mirror_of_le {a : Word} (h : a.toNat ≤ 0x1FFF) : (mirror a).toNat = a.toNat % 0x800 := by
  rw [mirror_of_le h, BitVec.toNat_and]
  exact Nat.and_two_pow_sub_one_eq_mod a.toNat 11

theorem toNat_mirror_of_ppu {a : Word} (h : 0x2000 ≤ a.toNat ∧ a.toNat ≤ 0x3FFF) :
    (mirror a).toNat = 0x2000 + (a.toNat - 0x2000) % 8 := by
  unfold mirror
  rw [if_neg (by omega), if_pos h.2, BitVec.toNat_ofNat]
  omega

theorem mirror_of_ge {a : Word} (h : 0x4000 ≤ a.toNat) : mirror a = a := by
  unfold mirror
  rw [if_neg (by omega), if_neg (by omega)]

/-! Dispatch on the mirrored address (R62). -/

theorem State.cellAt_of_mirror_ppu (s : State) {a : Word} (h : 0x2000 ≤ (mirror a).toNat ∧ (mirror a).toNat ≤ 0x2007) :
    s.cellAt a = .ppu ((mirror a).toNat - 0x2000) := if_pos h

theorem State.cellAt_of_mirror_apuIo (s : State) {a : Word} (h : 0x4000 ≤ (mirror a).toNat ∧ (mirror a).toNat ≤ 0x4017) :
    s.cellAt a = .apuIo ((mirror a).toNat - 0x4000) := by
  unfold State.cellAt busCell
  simp only
  rw [if_neg (by omega), if_pos h]

theorem State.cellAt_of_mirror_ram (s : State) {a : Word} (h : (mirror a).toNat < 0x4020)
    (hp : ¬(0x2000 ≤ (mirror a).toNat ∧ (mirror a).toNat ≤ 0x2007))
    (hq : ¬(0x4000 ≤ (mirror a).toNat ∧ (mirror a).toNat ≤ 0x4017)) : s.cellAt a = .ram (mirror a).toNat := by
  unfold State.cellAt busCell
  simp only
  rw [if_neg hp, if_neg hq, if_pos h]

theorem State.cellAt_of_mirror_cart (s : State) {a : Word} (h : 0x4020 ≤ (mirror a).toNat) :
    s.cellAt a = .cart (cartCell s.cart (mirror a).toNat) := by
  unfold State.cellAt busCell
  simp only
  rw [if_neg (by omega), if_neg (by omega), if_neg (by omega)]

/-! The cell at an address, by the address itself. -/

theorem State.cellAt_internalRam (s : State) {a : Word} (h : a.toNat ≤ 0x1FFF) : s.cellAt a = .ram (a.toNat % 0x800) := by
  have hm := toNat_mirror_of_le h
  rw [s.cellAt_of_mirror_ram (by omega) (by omega) (by omega), hm]

theorem State.cellAt_ppu (s : State) {a : Word} (h : 0x2000 ≤ a.toNat ∧ a.toNat ≤ 0x3FFF) :
    s.cellAt a = .ppu ((a.toNat - 0x2000) % 8) := by
  have hm := toNat_mirror_of_ppu h
  rw [s.cellAt_of_mirror_ppu (by omega), hm, Nat.add_sub_cancel_left]

theorem State.cellAt_apuIo (s : State) {a : Word} (h : 0x4000 ≤ a.toNat ∧ a.toNat ≤ 0x4017) :
    s.cellAt a = .apuIo (a.toNat - 0x4000) := by
  have hm := mirror_of_ge h.1
  rw [s.cellAt_of_mirror_apuIo (by rwa [hm]), hm]

/-- The cells 0x4018 to 0x401F are plain memory (R64). -/
theorem State.cellAt_testRam (s : State) {a : Word} (h : 0x4018 ≤ a.toNat ∧ a.toNat ≤ 0x401F) : s.cellAt a = .ram a.toNat := by
  have hm : mirror a = a := mirror_of_ge (by omega)
  rw [s.cellAt_of_mirror_ram (by rw [hm]; omega) (by rw [hm]; omega) (by rw [hm]; omega), hm]

theorem State.cellAt_cart (s : State) {a : Word} (h : 0x4020 ≤ a.toNat) : s.cellAt a = .cart (cartCell s.cart a.toNat) := by
  have hm : mirror a = a := mirror_of_ge (by omega)
  rw [s.cellAt_of_mirror_cart (by rwa [hm]), hm]

/-- A mask with a size less one is the remainder (R72 to R74). -/
theorem and_sizeOfLog2_sub_one {l : Option Nat} (h : 0 < sizeOfLog2 l) (n : Nat) :
    n &&& (sizeOfLog2 l - 1) = n % sizeOfLog2 l := by
  cases l with
  | none => cases h
  | some k => exact Nat.and_two_pow_sub_one_eq_mod n k

theorem State.cellAt_prgRam (s : State) {a : Word} (h : 0x6000 ≤ a.toNat ∧ a.toNat < 0x8000) (hsize : 0 < s.cart.prgRamSize) :
    s.cellAt a = .cart (.prgRam (a.toNat % s.cart.prgRamSize)) := by
  rw [s.cellAt_cart (by omega), cartCell, if_neg (by omega), if_pos ⟨h.1, hsize⟩]
  exact congrArg (BusCell.cart ∘ CartCell.prgRam) (and_sizeOfLog2_sub_one hsize a.toNat)

theorem State.cellAt_unmapped (s : State) {a : Word} (h : 0x4020 ≤ a.toNat ∧ a.toNat < 0x8000)
    (hram : a.toNat < 0x6000 ∨ s.cart.prgRamSize = 0) : s.cellAt a = .cart .unmapped := by
  rw [s.cellAt_cart h.1, cartCell, if_neg (by omega), if_neg (by omega)]

/-! A read and a write at a cell of each kind (R63 to R65, R68, R72, R73). -/

section
variable {s : State} {a : Word}

theorem State.readValue_of_ram {k : Nat} (h : s.cellAt a = .ram k) : s.readValue a = s.ram.read k := by
  simp only [State.readValue, h]

theorem State.readValue_of_cart {c : CartCell} (h : s.cellAt a = .cart c) : s.readValue a = cpuRead s.cart c := by
  simp only [State.readValue, h]

theorem State.ram_onWrite_of_ram {k : Nat} (h : s.cellAt a = .ram k) (v : Byte) : (s.onWrite a v).ram = s.ram.write k v := by
  simp only [State.onWrite_ram, State.ramAfterWrite, h]

theorem State.ram_onWrite_of_cart {c : CartCell} (h : s.cellAt a = .cart c) (v : Byte) : (s.onWrite a v).ram = s.ram := by
  simp only [State.onWrite_ram, State.ramAfterWrite, h]

theorem State.cart_onWrite_of_cart {c : CartCell} (h : s.cellAt a = .cart c) (v : Byte) :
    (s.onWrite a v).cart = cpuWrite s.cart c v := by
  simp only [State.onWrite_cart, State.cartAfterWrite, h]

theorem State.readValue_of_isPeriph (h : (s.cellAt a).isPeriph = true) : s.readValue a = s.periphValue a := by
  revert h
  unfold State.readValue
  cases s.cellAt a <;> simp [BusCell.isPeriph, BusCell.collaborator]

theorem State.periphAfterRead_of_isPeriph (h : (s.cellAt a).isPeriph = true) : s.periphAfterRead a = s.periphIn.drop 1 :=
  if_pos h

/-- A write to a peripheral cell changes no memory (R65). -/
theorem memoryKept_onWrite_of_isPeriph (h : (s.cellAt a).isPeriph = true) (v : Byte) : MemoryKept s (s.onWrite a v) := by
  have hkept : (s.onWrite a v).ram = s.ram ∧ (s.onWrite a v).cart = s.cart := by
    revert h
    simp only [State.onWrite_ram, State.ramAfterWrite, State.onWrite_cart, State.cartAfterWrite]
    cases s.cellAt a <;> simp [BusCell.isPeriph, BusCell.collaborator]
  exact memoryKept_of_eq hkept.1 hkept.2

/-- A byte written to a cell of the RAM array is read back at every address of that cell and at no other RAM address (R63). -/
theorem State.readValue_onWrite_of_ram {b : Word} {j k : Nat} (ha : s.cellAt a = .ram j) (hb : s.cellAt b = .ram k) (v : Byte) :
    (s.onWrite a v).readValue b = if j = k then v else s.readValue b := by
  have hb' : (s.onWrite a v).cellAt b = .ram k := (s.cellAt_onWrite a b v).trans hb
  rw [State.readValue_of_ram hb', State.readValue_of_ram hb, State.ram_onWrite_of_ram ha]
  split
  case isTrue hjk => rw [hjk, Memory.read_write_same]
  case isFalse hjk => rw [Memory.read_write_other _ _ (Ne.symm hjk)]

end

/-- Settles O14: the three ranges of mirroring, then one clause of the decoder for each kind of cell. -/
theorem mirrorAndDispatch : Obligations.MirrorAndDispatch := by
  unfold Obligations.MirrorAndDispatch
  intro a
  refine ⟨⟨fun h => ⟨mirror_of_le h, ?mod⟩, toNat_mirror_of_ppu, mirror_of_ge⟩, ?dispatch⟩
  case mod =>
    have hmod : (BitVec.ofNat 16 (a.toNat % 0x800)).toNat = a.toNat % 0x800 := by
      rw [BitVec.toNat_ofNat]
      omega
    apply BitVec.eq_of_toNat_eq
    rw [toNat_mirror_of_le h, toNat_mirror_of_le (by omega), hmod, Nat.mod_mod]
  case dispatch =>
    rintro s v m rfl
    refine ⟨s.cellAt_of_mirror_ppu, s.cellAt_of_mirror_apuIo, ?ram, ?cart⟩
    case ram =>
      rintro ⟨h, hp, hq⟩
      have hc := s.cellAt_of_mirror_ram h hp hq
      exact ⟨State.readValue_of_ram hc, State.ram_onWrite_of_ram hc v⟩
    case cart =>
      intro h
      have hc := s.cellAt_of_mirror_cart h
      exact ⟨State.readValue_of_cart hc, State.cart_onWrite_of_cart hc v⟩

/-- The pattern pair with character memory: its byte is the one at the address modulo the size (R74). -/
theorem pattern_of_chrSize_pos {c : Cartridge} (h : 0 < c.chrSize) (a : BitVec 13) (v : Byte) :
    ppuRead c a = c.chr.read (a.toNat % c.chrSize) ∧
      ppuWrite c a v = if c.chrIsRam then { c with chr := c.chr.write (a.toNat % c.chrSize) v } else c := by
  have hmask : a.toNat &&& (c.chrSize - 1) = a.toNat % c.chrSize := and_sizeOfLog2_sub_one h a.toNat
  cases hl : c.chrLog2 with
  | none => simp [Cartridge.chrSize, sizeOfLog2, hl] at h
  | some k => simp only [ppuRead, ppuWrite, hl, hmask, and_self]

/-- The pattern pair without character memory (R74). -/
theorem pattern_of_chrSize_zero {c : Cartridge} (h : c.chrSize = 0) (a : BitVec 13) (v : Byte) :
    ppuRead c a = 0x00#8 ∧ ppuWrite c a v = c := by
  cases hl : c.chrLog2 with
  | none => simp only [ppuRead, ppuWrite, hl, and_self]
  | some k => simp [Cartridge.chrSize, sizeOfLog2, hl] at h

/-- Settles O15: the mapper's cell in each range, with what a read and a write do there, and the pattern pair by the size. -/
theorem fixedBankCartridge : Obligations.FixedBankCartridge := by
  unfold Obligations.FixedBankCartridge
  refine ⟨fun s a v => ⟨fun h => ?prgRom, fun ⟨h, h', hsize⟩ => ?prgRam, fun ⟨h, h', hram⟩ => ?unmapped⟩,
    fun c a v => ⟨fun h => pattern_of_chrSize_pos h a v, fun h => pattern_of_chrSize_zero h a v⟩⟩
  case prgRom =>
    have hc := s.cellAt_of_ge h
    exact ⟨s.readValue_prgRom h, State.cart_onWrite_of_cart hc v, State.ram_onWrite_of_cart hc v⟩
  case prgRam =>
    have hc := s.cellAt_prgRam ⟨h, h'⟩ hsize
    exact ⟨State.readValue_of_cart hc, State.cart_onWrite_of_cart hc v, State.ram_onWrite_of_cart hc v⟩
  case unmapped =>
    have hc := s.cellAt_unmapped ⟨h, h'⟩ hram
    exact ⟨State.readValue_of_cart hc, State.cart_onWrite_of_cart hc v, State.ram_onWrite_of_cart hc v⟩

/-- The PPU addresses and the APU/IO addresses below 0x4018 are the peripheral ones (R65, R67). -/
theorem State.isPeriph_cellAt (s : State) {a : Word}
    (h : (0x2000 ≤ a.toNat ∧ a.toNat ≤ 0x3FFF) ∨ (0x4000 ≤ a.toNat ∧ a.toNat ≤ 0x4017)) : (s.cellAt a).isPeriph = true := by
  obtain h | h := h
  · rw [s.cellAt_ppu h]
    rfl
  · rw [s.cellAt_apuIo h]
    rfl

/-- Settles O16: the RAM clauses compare the cells of the two addresses; the peripheral one is the environment's answer. -/
theorem busCells : Obligations.BusCells := by
  unfold Obligations.BusCells
  refine fun s a b v => ⟨fun ⟨ha, hb⟩ => ?internal, fun ⟨ha, ha', hb⟩ => ?test, fun h => ?periph⟩
  case internal => exact State.readValue_onWrite_of_ram (s.cellAt_internalRam ha) (s.cellAt_internalRam hb) v
  case test =>
    have hca := s.cellAt_testRam ⟨ha, ha'⟩
    obtain hb | hb := hb
    · have hcells : a.toNat ≠ b.toNat % 0x800 := by omega
      have hne : a ≠ b := by
        rintro rfl
        omega
      rw [State.readValue_onWrite_of_ram hca (s.cellAt_internalRam hb), if_neg hcells, if_neg hne]
    · simp only [State.readValue_onWrite_of_ram hca (s.cellAt_testRam hb), BitVec.toNat_inj]
  case periph =>
    have hp := s.isPeriph_cellAt h
    refine ⟨fun r rest hin => ⟨?_, ?_⟩, memoryKept_of_eq rfl rfl, memoryKept_onWrite_of_isPeriph hp v, rfl, rfl⟩
    · rw [State.readValue_of_isPeriph hp, State.periphValue, hin]
    · rw [State.onRead_periphIn, State.periphAfterRead_of_isPeriph hp, hin, List.drop_one, List.tail_cons]

end Sys2Proof.Machine
end

section
/-! PROOFS of the family 20_memory, the deliveries. What an access tells each collaborator, by the owner of the cell that it names
(20_memory.md R65, R67, R68). -/

namespace Sys2Proof.Machine

/-- What an access delivers to a collaborator: one event, if the cell is the collaborator's (R65, R67). -/
theorem delivered_of_collaborator {c : Cartridge} {x : BusAccess} {o : Option Collaborator}
    (h : (busCell c x.addr).collaborator = o) (k : Collaborator) :
    (((BusAccess.delivery c x).toList.filter fun d => d.1 = k).map (·.2)) =
      if o = some k then [⟨x.kind, busCell c x.addr, x.data⟩] else [] := by
  rw [BusAccess.delivery, h]
  cases o with
  | none => simp
  | some j => by_cases hj : j = k <;> simp [hj]

theorem State.deliveredTo_onWrite {s : State} {a : Word} {o : Option Collaborator} (h : (s.cellAt a).collaborator = o) (v : Byte)
    (k : Collaborator) :
    (s.onWrite a v).deliveredTo k = s.deliveredTo k ++ if o = some k then [⟨.write, s.cellAt a, v⟩] else [] := by
  rw [State.deliveredTo, State.deliveries_onWrite, List.filter_append, List.map_append]
  exact congrArg (s.deliveredTo k ++ ·) (delivered_of_collaborator (x := ⟨.write, a, v⟩) h k)

theorem State.deliveredTo_onRead {s : State} {a : Word} {o : Option Collaborator} (h : (s.cellAt a).collaborator = o)
    (k : Collaborator) :
    (s.onRead a).deliveredTo k = s.deliveredTo k ++ if o = some k then [⟨.read, s.cellAt a, s.readValue a⟩] else [] := by
  rw [State.deliveredTo, State.deliveries_onRead, List.filter_append, List.map_append]
  exact congrArg (s.deliveredTo k ++ ·) (delivered_of_collaborator (x := ⟨.read, a, s.readValue a⟩) h k)

/-- A write and a read of a cell, and what both collaborators see of them. -/
theorem State.deliveredTo_of_cellAt {s : State} {a : Word} {c : BusCell} (h : s.cellAt a = c) {o : Option Collaborator}
    (ho : c.collaborator = o) (v : Byte) :
    ((s.onWrite a v).deliveredTo .video = s.deliveredTo .video ++ if o = some .video then [⟨.write, c, v⟩] else []) ∧
    ((s.onWrite a v).deliveredTo .audioInput =
      s.deliveredTo .audioInput ++ if o = some .audioInput then [⟨.write, c, v⟩] else []) ∧
    ((s.onRead a).deliveredTo .video = s.deliveredTo .video ++ if o = some .video then [⟨.read, c, s.readValue a⟩] else []) ∧
    ((s.onRead a).deliveredTo .audioInput =
      s.deliveredTo .audioInput ++ if o = some .audioInput then [⟨.read, c, s.readValue a⟩] else []) := by
  subst h
  exact ⟨State.deliveredTo_onWrite ho v .video, State.deliveredTo_onWrite ho v .audioInput, State.deliveredTo_onRead ho .video,
    State.deliveredTo_onRead ho .audioInput⟩

/-- RAM, the cells 0x4018 to 0x401F and cartridge space are no collaborator's (R63, R64, R69). -/
theorem State.collaborator_of_memory (s : State) {a : Word} (h : a.toNat ≤ 0x1FFF ∨ 0x4018 ≤ a.toNat) :
    (s.cellAt a).collaborator = none := by
  obtain h | h := h
  · rw [s.cellAt_internalRam h]
    rfl
  · by_cases hcart : 0x4020 ≤ a.toNat
    · rw [s.cellAt_cart hcart]
      rfl
    · rw [s.cellAt_testRam ⟨h, by omega⟩]
      rfl

/-- Settles O60: the cell at the address and its owner, range by range. -/
theorem peripheralDelivery : Obligations.PeripheralDelivery := by
  unfold Obligations.PeripheralDelivery
  refine fun s a v => ⟨fun h => ?ppu, fun h => ?oamDma, fun ⟨h, h', hne⟩ => ?apuIo, fun h => ?memory⟩
  case ppu => exact State.deliveredTo_of_cellAt (o := some .video) (s.cellAt_ppu h) rfl v
  case oamDma =>
    have hc : s.cellAt a = .apuIo 0x14 := by
      rw [s.cellAt_apuIo ⟨by omega, by omega⟩, h]
    exact State.deliveredTo_of_cellAt (o := some .video) hc rfl v
  case apuIo =>
    have hcell : a.toNat - 0x4000 ≠ 0x14 := by omega
    have howner : BusCell.collaborator (.apuIo (a.toNat - 0x4000)) = some .audioInput := by
      rw [BusCell.collaborator, if_neg hcell]
    exact State.deliveredTo_of_cellAt (s.cellAt_apuIo ⟨h, h'⟩) howner v
  case memory => exact State.deliveredTo_of_cellAt rfl (s.collaborator_of_memory h) v

end Sys2Proof.Machine
end

section
/-! PROOFS of the family 30_encoding. An opcode byte and the two bytes after it make an instruction whose encoding they are, and each
instruction is read back from its own encoding (30_encoding.md R110 to R115); the statements about decode follow from these two. -/

namespace Sys2Proof

@[simp] theorem lo_w16 (h l : Byte) : lo (w16 h l) = l := by
  rw [lo, w16, BitVec.setWidth_append_eq_right]

@[simp] theorem hi_w16 (h l : Byte) : hi (w16 h l) = h := by
  rw [hi, w16, BitVec.extractLsb'_append_eq_left]

/-! Lengths (R110 to R112). -/

theorem Mode.length_bounds (m : Mode) : 1 ≤ m.length ∧ m.length ≤ 3 := by
  cases m <;> decide

theorem lengthOfOpcode_bounds (op : Byte) : 1 ≤ lengthOfOpcode op ∧ lengthOfOpcode op ≤ 3 := by
  rw [lengthOfOpcode]
  split
  case h_1 row _ => exact Mode.length_bounds row.mode
  case h_2 => decide

/-- The operand bytes and the opcode byte make the length of the addressing mode. -/
theorem Operand.mode_length (o : Operand) : o.mode.length = o.bytes.length + 1 := by
  cases o with
  | mem m => cases m <;> rfl
  | imp | acc | imm _ | rel _ | target _ | ind _ => rfl

/-! The opcode bytes that share a mnemonic and a mode (R117). -/

theorem decodeOpcode_jamOpcode (k : Fin 12) (b c : Byte) : decodeOpcode (jamOpcode k) b c = some (.jam k) :=
  match k with
  | 0 | 1 | 2 | 3 | 4 | 5 | 6 | 7 | 8 | 9 | 10 | 11 => rfl

theorem decodeOpcode_nopImpOpcode (k : Fin 6) (b c : Byte) : decodeOpcode (nopImpOpcode k) b c = some (.nopImp k) :=
  match k with
  | 0 | 1 | 2 | 3 | 4 | 5 => rfl

theorem decodeOpcode_ancOpcode (k : Fin 2) (b c : Byte) : decodeOpcode (ancOpcode k) b c = some (.anc k b) :=
  match k with
  | 0 | 1 => rfl

theorem decodeOpcode_nopImmOpcode (k : Fin 5) (b c : Byte) : decodeOpcode (nopImmOpcode k) b c = some (.nopImm k b) :=
  match k with
  | 0 | 1 | 2 | 3 | 4 => rfl

theorem decodeOpcode_nopZpOpcode (k : Fin 3) (b c : Byte) : decodeOpcode (nopZpOpcode k) b c = some (.nopZp k b) :=
  match k with
  | 0 | 1 | 2 => rfl

theorem decodeOpcode_nopZpxOpcode (k : Fin 6) (b c : Byte) : decodeOpcode (nopZpxOpcode k) b c = some (.nopZpx k b) :=
  match k with
  | 0 | 1 | 2 | 3 | 4 | 5 => rfl

theorem decodeOpcode_nopAbxOpcode (k : Fin 6) (b c : Byte) : decodeOpcode (nopAbxOpcode k) b c = some (.nopAbx k (w16 c b)) :=
  match k with
  | 0 | 1 | 2 | 3 | 4 | 5 => rfl

/-! The two directions between opcode bytes and instructions (R115, R117), one check for each byte and for each instruction. In both
the decoder's answer is computed, and what is left to compare is an address with the bytes it was put together from. -/

/-- An opcode byte stands in a row and a column of the opcode matrix. -/
theorem exists_nibbles (op : Byte) : ∃ row column : Fin 16, op = BitVec.ofNat 8 (16 * row.val + column.val) := by
  have hop := op.isLt
  refine ⟨⟨op.toNat / 16, by omega⟩, ⟨op.toNat % 16, by omega⟩, ?_⟩
  rw [Nat.div_add_mod, BitVec.ofNat_toNat, BitVec.setWidth_eq]

/-- No opcode byte is unknown, and the instruction made of it and of two bytes after it has those bytes as its encoding, as far as
its length goes. -/
theorem exists_decodeOpcode (op b c : Byte) :
    ∃ i, decodeOpcode op b c = some i ∧ encode i = op :: [b, c].take (lengthOfOpcode op - 1) := by
  obtain ⟨row, column, rfl⟩ := exists_nibbles op
  match row with
  | ⟨_ + 16, h⟩ => exact absurd h (by omega)
  | 0 | 1 | 2 | 3 | 4 | 5 | 6 | 7 | 8 | 9 | 10 | 11 | 12 | 13 | 14 | 15 =>
    match column with
    | ⟨_ + 16, h⟩ => exact absurd h (by omega)
    | 0 | 1 | 2 | 3 | 4 | 5 | 6 | 7 | 8 | 9 | 10 | 11 | 12 | 13 | 14 | 15 =>
      refine ⟨_, rfl, ?_⟩
      simp only [encode, Instr.operand, Operand.bytes, MemMode.bytes, lo_w16, hi_w16]
      rfl

theorem encode_of_decodeOpcode {op b c : Byte} {i : Instr} (h : decodeOpcode op b c = some i) :
    encode i = op :: [b, c].take (lengthOfOpcode op - 1) := by
  obtain ⟨j, hj, henc⟩ := exists_decodeOpcode op b c
  obtain rfl : i = j := Option.some.inj (h.symm.trans hj)
  exact henc

/-- The opcode byte of an instruction and the first two bytes of what follows it in memory make the instruction. -/
theorem decodeOpcode_encode (i : Instr) (rest : List Byte) :
    decodeOpcode i.opcode ((i.operand.bytes ++ rest).getD 0 0#8) ((i.operand.bytes ++ rest).getD 1 0#8) = some i := by
  cases i with
  | jam k => exact decodeOpcode_jamOpcode k _ _
  | nopImp k => exact decodeOpcode_nopImpOpcode k _ _
  | anc k d => exact decodeOpcode_ancOpcode k d _
  | nopImm k d => exact decodeOpcode_nopImmOpcode k d _
  | nopZp k z => exact decodeOpcode_nopZpOpcode k z _
  | nopZpx k z => exact decodeOpcode_nopZpxOpcode k z _
  | nopAbx k a => exact (decodeOpcode_nopAbxOpcode k (lo a) (hi a)).trans (by rw [Machine.w16_hi_lo])
  | _ =>
    dsimp only [Instr.opcode, Instr.operand, Operand.bytes, MemMode.bytes]
    calc
      decodeOpcode _ _ _ = some _ := rfl
      _ = some _ := by simp only [List.cons_append, List.getD_cons_zero, List.getD_cons_succ, Machine.w16_hi_lo]

/-- The table's length of an instruction's opcode byte is the length of its encoding. -/
theorem lengthOfOpcode_opcode (i : Instr) : lengthOfOpcode i.opcode = i.operand.bytes.length + 1 := by
  have hlen := congrArg List.length (encode_of_decodeOpcode (decodeOpcode_encode i []))
  have hbounds := lengthOfOpcode_bounds i.opcode
  simp only [encode, List.length_cons, List.length_take, List.length_nil] at hlen
  omega

/-! The decoder on a list of bytes. -/

/-- When the decoder answers: the bytes are enough for the opcode's length, and the opcode and the two bytes after it, 0 where there
are none, make the instruction. -/
theorem decode_cons_eq_ok_iff {op : Byte} {tail rest : List Byte} {i : Instr} :
    decode (op :: tail) = .ok (i, rest) ↔
      lengthOfOpcode op ≤ tail.length + 1 ∧ decodeOpcode op (tail.getD 0 0#8) (tail.getD 1 0#8) = some i ∧
        rest = tail.drop (lengthOfOpcode op - 1) := by
  rw [decode]
  by_cases hlen : tail.length + 1 < lengthOfOpcode op
  · simp only [hlen, if_true, reduceCtorEq, Nat.not_le_of_lt hlen, false_and]
  · obtain ⟨j, hj, -⟩ := exists_decodeOpcode op (tail.getD 0 0#8) (tail.getD 1 0#8)
    simp only [hlen, if_false, hj, Except.ok.injEq, Prod.mk.injEq, Option.some.injEq, eq_comm, Nat.le_of_not_lt hlen,
      true_and]

/-- Of the two bytes the decoder looks at, those within a list's length are the list's own. -/
theorem take_getD_pair {n : Nat} {l : List Byte} (hn : n ≤ 2) (hl : n ≤ l.length) :
    [l.getD 0 0#8, l.getD 1 0#8].take n = l.take n := by
  match n, l with
  | 0, _ => rfl
  | 1, _ :: _ => rfl
  | 2, _ :: _ :: _ => rfl

/-- Settles O1: the instruction is made of its own bytes, and what is dropped is its own length. -/
theorem decodeOfEncode : Obligations.DecodeOfEncode := by
  unfold Obligations.DecodeOfEncode
  intro i rest
  have hlen := lengthOfOpcode_opcode i
  rw [encode, List.cons_append]
  refine decode_cons_eq_ok_iff.2 ⟨?enough, decodeOpcode_encode i rest, ?left⟩
  case enough => rw [hlen, List.length_append]; omega
  case left => rw [hlen, Nat.add_sub_cancel, List.drop_left]

/-- Settles O2: the opcode byte and the operand bytes taken are the encoding of the answer, and the rest is what was not taken. -/
theorem decodedBytesAreTheEncoding : Obligations.DecodedBytesAreTheEncoding := by
  unfold Obligations.DecodedBytesAreTheEncoding
  intro bytes i rest h
  match bytes with
  | [] => cases h
  | op :: tail =>
    obtain ⟨hlen, hi, rfl⟩ := decode_cons_eq_ok_iff.1 h
    obtain ⟨-, hmax⟩ := lengthOfOpcode_bounds op
    rw [encode_of_decodeOpcode hi, take_getD_pair (by omega) (by omega), List.cons_append, List.take_append_drop]

/-- Settles O3: the instruction that the byte and the two after it make has that opcode, and two bytes are enough for any. -/
theorem everyOpcodeByteDecodes : Obligations.EveryOpcodeByteDecodes := by
  unfold Obligations.EveryOpcodeByteDecodes
  intro op b c rest
  obtain ⟨i, hi, henc⟩ := exists_decodeOpcode op b c
  obtain rfl : i.opcode = op := (List.cons.inj henc).1
  have hlen : i.length = lengthOfOpcode i.opcode := (Operand.mode_length _).trans (lengthOfOpcode_opcode i).symm
  refine ⟨i, rfl, decode_cons_eq_ok_iff.2 ⟨?enough, hi, by rw [hlen]⟩⟩
  obtain ⟨-, hmax⟩ := lengthOfOpcode_bounds i.opcode
  simp only [List.length_cons]
  omega

/-- Settles O4: each count is the sum of the counts in the sixteen rows of the opcode matrix. -/
theorem opcodeTableCounts : Obligations.OpcodeTableCounts := by
  unfold Obligations.OpcodeTableCounts
  simp only [Claims.allRows, List.length_append, List.countP_append]
  decide

/-- Settles O5: each word decoded. -/
theorem specWordsDecode : Obligations.SpecWordsDecode := by
  unfold Obligations.SpecWordsDecode
  decide

end Sys2Proof
end

section
/-! PROOFS of the family 41_addressing_modes, the addresses. The bytes of a word as numbers, the effective address of each mode and
the page test (41_addressing_modes.md R165 to R175; 20_memory.md R82). -/

namespace Sys2Proof

open Machine Claims

/-! A word and its bytes as numbers (00_scope.md R9). -/

theorem toNat_lo (w : Word) : (lo w).toNat = w.toNat % 256 := BitVec.toNat_setWidth 8 w

theorem toNat_hi (w : Word) : (hi w).toNat = w.toNat / 256 := by
  have := w.isLt
  rw [hi, BitVec.extractLsb'_toNat, Nat.shiftRight_eq_div_pow]
  omega

theorem toNat_w16 (h l : Byte) : (w16 h l).toNat = l.toNat + 256 * h.toNat := by
  rw [w16, BitVec.toNat_append, Nat.shiftLeft_eq, Nat.mul_comm, ← Nat.two_pow_add_eq_or_of_lt l.isLt, Nat.add_comm]

/-- Adding a byte to a word wraps modulo 65536 (R169, R170, R173). -/
theorem toNat_add_zext16 (w : Word) (b : Byte) : (w + zext16 b).toNat = (w.toNat + b.toNat) % 65536 := by
  rw [BitVec.toNat_add, toNat_zext16]

/-- The word at a zero-page pointer, as the RAM array holds it: its high byte is at the next address of page 0 (R82). -/
theorem toNat_zpPointer (s : State) (p : Byte) :
    (s.zpPointer p).toNat = (s.ram.read p.toNat).toNat + 256 * (s.ram.read ((p.toNat + 1) % 256)).toNat := by
  rw [State.zpPointer, toNat_w16, State.readValue_zeroPage, State.readValue_zeroPage]
  rfl

theorem MemMode.toNat_ea (m : MemMode) (s : State) : (m.ea s).toNat = effectiveAddress m s := by
  cases m with
  | zp z => exact toNat_zext16 z
  | zpx z | zpy z => exact toNat_zext16 _
  | abs a => rfl
  | abx a | aby a => exact toNat_add_zext16 a _
  | izx z =>
    rw [MemMode.ea, toNat_zpPointer, BitVec.toNat_add, Nat.mod_add_mod]
    rfl
  | izy z =>
    rw [MemMode.ea, toNat_add_zext16, toNat_zpPointer]
    rfl

/-- Settles O12: the number is computed mode by mode, and the accesses before the operand's leave memory as it is. -/
theorem operandAddresses : Obligations.OperandAddresses := by
  unfold Obligations.OperandAddresses
  intro m s
  exact ⟨m.toNat_ea s, fun v hv => ⟨MemMode.operandRead_of_peek hv, MemMode.operandRmw_of_peek hv⟩⟩

/-! The page test (R175). -/

theorem pageCrossed_iff (base : Word) (idx : Byte) : pageCrossed base idx = true ↔ 0xFF < (lo base).toNat + idx.toNat :=
  decide_eq_true_iff

/-- The high byte of the sum is that of the base exactly when the low bytes make no carry. -/
theorem hi_add_eq_hi_iff (base : Word) (idx : Byte) :
    hi (base + zext16 idx) = hi base ↔ (lo base).toNat + idx.toNat ≤ 0xFF := by
  have := base.isLt
  have := idx.isLt
  rw [← BitVec.toNat_inj, toNat_hi, toNat_hi, toNat_add_zext16, toNat_lo]
  omega

/-- The low byte of the sum does not depend on the high byte of the base. -/
theorem lo_add_zext16 (base : Word) (idx : Byte) : lo (base + zext16 idx) = lo base + idx := by
  rw [← BitVec.toNat_inj, BitVec.toNat_add, toNat_lo, toNat_lo, toNat_add_zext16]
  omega

/-- The address with the uncorrected high byte needs no correction exactly when no page is crossed. -/
theorem preAddress_eq_add_iff (base : Word) (idx : Byte) :
    preAddress base idx = base + zext16 idx ↔ hi (base + zext16 idx) = hi base := by
  rw [preAddress, ← lo_add_zext16]
  refine ⟨fun h => ?_, fun h => ?_⟩
  · rw [← h, hi_w16]
  · rw [← h, w16_hi_lo]

theorem add_eq_ofNat_mod (a b : Byte) : a + b = BitVec.ofNat 8 ((a.toNat + b.toNat) % 256) := by
  rw [← BitVec.toNat_inj, BitVec.toNat_add, BitVec.toNat_ofNat, Nat.mod_mod]

theorem MemMode.ea_of_indexesWord {m : MemMode} (h : m.indexesWord = true) (s : State) :
    m.ea s = m.base s + zext16 (m.index s) := by
  cases m <;> cases h <;> rfl

theorem MemMode.crossed_of_indexesWord {m : MemMode} (h : m.indexesWord = true) (s : State) :
    m.crossed s = pageCrossed (m.base s) (m.index s) := by
  rw [MemMode.crossed, h, Bool.true_and]

/-- The two forms of the page test agree. -/
theorem MemMode.crossed_iff_hi_ne {m : MemMode} (h : m.indexesWord = true) (s : State) :
    m.crossed s = true ↔ hi (m.ea s) ≠ hi (m.base s) := by
  rw [crossed_of_indexesWord h, pageCrossed_iff, ea_of_indexesWord h, ne_eq, hi_add_eq_hi_iff, Nat.not_le]

theorem MemMode.pre_eq_ea_iff {m : MemMode} (h : m.indexesWord = true) (s : State) :
    m.pre s = m.ea s ↔ m.crossed s = false := by
  rw [← Bool.not_eq_true, crossed_iff_hi_ne h, Decidable.not_not, ea_of_indexesWord h]
  exact preAddress_eq_add_iff _ _

/-- A branch runs in the branch form, taken on the flags of its mnemonic (44_control_stack_flags.md R307 to R314). -/
theorem exec_of_rel {i : Instr} {d : Byte} (ho : i.operand = .rel d) (s : State) :
    exec i s = branchInstr (branchTaken i.mnemonic s.flags) d s := by
  cases i <;> cases ho <;> rfl

/-- Settles O13: the clauses on the indexed modes by their base and index, the modes without the extra cycle by name, and the
cycles of the branch form. -/
theorem pageCrossing : Obligations.PageCrossing := by
  unfold Obligations.PageCrossing
  refine fun s => ⟨fun m hm => ?indexed, fun z a => ?others, fun i d ho htaken => ?branch⟩
  case indexed =>
    have h : m.indexesWord = true := by
      obtain ⟨w, rfl | rfl⟩ | ⟨z, rfl⟩ := hm <;> rfl
    refine ⟨?_, m.crossed_iff_hi_ne h s, ?_, m.pre_eq_ea_iff h s⟩
    · rw [m.crossed_of_indexesWord h, pageCrossed_iff]
    · exact congrArg (w16 _) (add_eq_ofNat_mod _ _)
  case others => exact ⟨rfl, rfl, rfl, rfl, rfl⟩
  case branch =>
    obtain ⟨t, ht, -, -, -, -, hcycles⟩ := branchInstr_next true d s
    refine ⟨t, by rw [exec_of_rel ho, htaken, ht], ?_⟩
    rw [hcycles, if_pos rfl]
    by_cases hpage : hi (branchTarget (s.pc + 2#16) d) = hi (s.pc + 2#16) <;> simp [hpage]

end Sys2Proof
end

section
/-! PROOFS of the family 41_addressing_modes, the accesses. The list of accesses that each bus operation and addressing mode makes, and
what the opcode table's operation group says of the executor (41_addressing_modes.md R160 to R173). -/

namespace Sys2Proof.Machine

open Sys2Proof.Claims

/-! The accesses of the bus operations (00_scope.md R11). -/

@[simp] theorem State.accessList_onRead (s : State) (a : Word) : (s.onRead a).accessList = s.accessList ++ [(.read, a)] := by
  simp [State.accessList]

@[simp] theorem State.accessList_onWrite (s : State) (a : Word) (v : Byte) :
    (s.onWrite a v).accessList = s.accessList ++ [(.write, a)] := by
  simp [State.accessList]

@[simp] theorem State.accessList_onFetch (s : State) : s.onFetch.accessList = s.accessList ++ [(.read, s.pc)] := by
  simp [State.accessList]

@[simp] theorem State.accessList_fetchOpcode (s : State) : s.fetchOpcode.accessList = [(.read, s.pc)] := rfl

theorem reads_append (l l' : List Word) : reads (l ++ l') = reads l ++ reads l' := List.map_append

/-! The accesses of the addressing modes, up to the operand's (R165 to R173). -/

@[simp] theorem accessList_resolve (m : MemMode) (s : State) : (m.resolve s).accessList = reads (addressReads m s) := by
  cases m <;> simp [MemMode.resolve, addressReads, reads, BitVec.add_assoc]

/-- The extra cycle at the uncorrected address, where there is one (R175). -/
theorem State.accessList_ite_onRead (s : State) (b : Bool) (a : Word) :
    (if b then s.onRead a else s).accessList = s.accessList ++ reads (if b then [a] else []) := by
  cases b <;> simp [reads]

theorem accessList_beforeRead (m : MemMode) (s : State) :
    (m.beforeRead s).accessList = reads (addressReads m s ++ if m.crossed s then [m.pre s] else []) := by
  rw [MemMode.beforeRead, State.accessList_ite_onRead, accessList_resolve, reads_append]

theorem accessList_beforeWrite (m : MemMode) (s : State) :
    (m.beforeWrite s).accessList = reads (addressReads m s ++ if m.indexesWord then [m.pre s] else []) := by
  rw [MemMode.beforeWrite, State.accessList_ite_onRead, accessList_resolve, reads_append]

/-- The update of the registers and flags makes no access. -/
theorem accesses_of_update {m : Mnemonic} {exe : State → State} (h : (executorOf m).Update exe) (s : State) :
    (exe s).accesses = s.accesses := by
  cases m <;> cases h <;> rfl

theorem accessList_of_update {m : Mnemonic} {exe : State → State} (h : (executorOf m).Update exe) (s : State) :
    (exe s).accessList = s.accessList :=
  congrArg (List.map _) (accesses_of_update h s)

/-! The operation group and the operand determine the kind of executor (R161 to R164, 30_encoding.md R116). -/

/-- The operation group of the forms with a memory operand that an executor has. -/
def Executor.memoryGroup : Executor → OpGroup
  | .read _ => .read
  | .write _ | .highAnd _ _ => .write
  | .rmw _ _ _ => .rmw
  | .implied _ | .branch _ | .jmp | .jsr | .rts | .rti | .brk | .pha | .php | .pla | .plp | .jam => .none

/-- The opcode table gives an instruction with a memory operand the group of its executor. -/
theorem group_of_mem {i : Instr} {m : MemMode} {row : OpcodeRow} (ho : i.operand = .mem m)
    (hrow : opcodeRow i.opcode = some row) : row.group = (executorOf i.mnemonic).memoryGroup := by
  have htable : (opcodeRow i.opcode).map (·.group) = some (executorOf i.mnemonic).memoryGroup := by
    cases i with
    | nopZp k z => match k with | 0 | 1 | 2 => dsimp only [Instr.opcode]; rfl
    | nopZpx k z => match k with | 0 | 1 | 2 | 3 | 4 | 5 => dsimp only [Instr.opcode]; rfl
    | nopAbx k a => match k with | 0 | 1 | 2 | 3 | 4 | 5 => dsimp only [Instr.opcode]; rfl
    | _ => cases ho <;> (dsimp only [Instr.opcode]; rfl)
  rw [hrow] at htable
  exact Option.some.inj htable

theorem Executor.eq_read_of_memoryGroup {e : Executor} (h : e.memoryGroup = .read) : ∃ exe, e = .read exe := by
  cases e <;> cases h
  exact ⟨_, rfl⟩

theorem Executor.eq_write_or_highAnd_of_memoryGroup {e : Executor} (h : e.memoryGroup = .write) :
    (∃ v, e = .write v) ∨ ∃ r exe, e = .highAnd r exe := by
  cases e <;> cases h
  · exact .inl ⟨_, rfl⟩
  · exact .inr ⟨_, _, rfl⟩

theorem Executor.eq_rmw_of_memoryGroup {e : Executor} (h : e.memoryGroup = .rmw) : ∃ f exe acc, e = .rmw f exe acc := by
  cases e <;> cases h
  exact ⟨_, _, _, rfl⟩

/-- An instruction with an immediate operand is a Read instruction. -/
theorem executorOf_of_imm {i : Instr} {d : Byte} (ho : i.operand = .imm d) : ∃ exe, executorOf i.mnemonic = .read exe := by
  cases i <;> cases ho <;> exact ⟨_, rfl⟩

/-- An instruction on the accumulator is a shift or a rotate. -/
theorem executorOf_of_acc {i : Instr} (ho : i.operand = .acc) : ∃ f exe acc, executorOf i.mnemonic = .rmw f exe acc := by
  cases i <;> cases ho <;> exact ⟨_, _, _, rfl⟩

/-- An instruction without an operand that has no sequence of its own is a NOP or has an implied executor. -/
theorem executorOf_of_imp {i : Instr} (ho : i.operand = .imp)
    (hm : i.mnemonic ∉ [.brk, .rti, .rts, .pha, .php, .pla, .plp, .jam]) :
    i.mnemonic = .nop ∨ ∃ exe, executorOf i.mnemonic = .implied exe := by
  cases i <;> cases ho
  case nop | nopImp => exact .inl rfl
  case brk | rti | rts | pha | php | pla | plp | jam => simp [Instr.mnemonic] at hm
  all_goals exact .inr ⟨_, rfl⟩

/-! The three groups. -/

theorem exec_read_mem_accessList {i : Instr} {m : MemMode} {exe : Byte → State → State} (ho : i.operand = .mem m)
    (he : executorOf i.mnemonic = .read exe) (s : State) :
    ∃ t, exec i s = .next t ∧
      t.accessList = reads (addressReads m s ++ (if m.crossed s then [m.pre s] else []) ++ [m.ea s]) := by
  have hupdate : (executorOf i.mnemonic).Update (exe (m.operandRead s)) := he ▸ .read exe _
  refine ⟨_, exec_read_mem ho he s, ?_⟩
  rw [accessList_of_update hupdate, State.accessList_onRead, accessList_beforeRead, reads_append _ [m.ea s]]
  rfl

theorem exec_imm_accessList {i : Instr} {d : Byte} (ho : i.operand = .imm d) (s : State) :
    ∃ t, exec i s = .next t ∧ t.accessList = reads [s.pc, s.pc + 1] := by
  obtain ⟨exe, he⟩ := executorOf_of_imm ho
  have hupdate : (executorOf i.mnemonic).Update (exe d) := he ▸ .read exe d
  exact ⟨_, exec_read_imm ho he s, accessList_of_update hupdate _⟩

theorem exec_acc_accessList {i : Instr} (ho : i.operand = .acc) (s : State) :
    ∃ t, exec i s = .next t ∧ t.accessList = reads [s.pc, s.pc + 1] := by
  obtain ⟨f, exe, acc, he⟩ := executorOf_of_acc ho
  have hupdate : (executorOf i.mnemonic).Update acc := he ▸ .acc f exe acc
  exact ⟨_, exec_rmw_acc ho he s, accessList_of_update hupdate _⟩

theorem exec_imp_accessList {i : Instr} (ho : i.operand = .imp)
    (hm : i.mnemonic ∉ [.brk, .rti, .rts, .pha, .php, .pla, .plp, .jam]) (s : State) :
    ∃ t, exec i s = .next t ∧ t.accessList = reads [s.pc, s.pc + 1] := by
  obtain hnop | ⟨exe, he⟩ := executorOf_of_imp ho hm
  · exact ⟨_, exec_nop_imp hnop ho s, rfl⟩
  · have hupdate : (executorOf i.mnemonic).Update exe := he ▸ .implied exe
    exact ⟨_, exec_implied he s, accessList_of_update hupdate _⟩

/-- Settles O9: one clause for each form of an instruction that only reads. -/
theorem accessesOfReadAndRegisterInstructions : Obligations.AccessesOfReadAndRegisterInstructions := by
  unfold Obligations.AccessesOfReadAndRegisterInstructions
  refine fun i s => ⟨fun m row ho hrow hg => ?mem, fun d ho => exec_imm_accessList ho s, fun h => ?register⟩
  case mem =>
    obtain ⟨exe, he⟩ := Executor.eq_read_of_memoryGroup ((group_of_mem ho hrow).symm.trans hg)
    exact exec_read_mem_accessList ho he s
  case register =>
    obtain ho | ⟨ho, hm⟩ := h
    · exact exec_acc_accessList ho s
    · exact exec_imp_accessList ho hm s

/-- A plain store is none of the unstable ones. -/
theorem mnemonic_of_write {mn : Mnemonic} {v : State → Byte} (he : executorOf mn = .write v) :
    mn ∉ [.shx] ∧ mn ∉ [.shy] ∧ mn ∉ [.sha, .tas] := by
  cases mn <;> cases he <;> decide

/-- The unstable stores and the register that each stores (45_undocumented.md R365 to R368). -/
theorem register_of_highAnd {mn : Mnemonic} {r : State → Byte} {exe : State → State} (he : executorOf mn = .highAnd r exe)
    (s : State) :
    mn ∉ [.sta, .stx, .sty, .sax] ∧ (mn ∈ [.shx] → r s = s.x) ∧ (mn ∈ [.shy] → r s = s.y) ∧
      (mn ∈ [.sha, .tas] → r s = s.a &&& s.x) := by
  cases mn <;> cases he <;> simp [shaRegister, shxRegister, shyRegister, tasRegister]

/-- Settles O10: the address is that of the executor, a plain store or an unstable one. -/
theorem accessesOfWriteInstructions : Obligations.AccessesOfWriteInstructions := by
  unfold Obligations.AccessesOfWriteInstructions
  intro i s m row ho hrow hg
  obtain ⟨v, he⟩ | ⟨r, exe, he⟩ :=
    Executor.eq_write_or_highAnd_of_memoryGroup ((group_of_mem ho hrow).symm.trans hg)
  case inl =>
    obtain ⟨hshx, hshy, hsha⟩ := mnemonic_of_write he
    refine ⟨_, m.ea s, exec_write ho he s, ?_, fun _ => rfl, (absurd · hshx), (absurd · hshy), (absurd · hsha)⟩
    rw [State.accessList_onWrite, accessList_beforeWrite]
  case inr =>
    have hupdate : (executorOf i.mnemonic).Update exe := he ▸ .highAnd r exe
    obtain ⟨hplain, hshx, hshy, hsha⟩ := register_of_highAnd he s
    refine ⟨_, m.highAndEa (r s) s, exec_highAnd ho he s, ?_, (absurd · hplain), fun h => by rw [hshx h], fun h => by rw [hshy h],
      fun h => by rw [hsha h]⟩
    rw [accessList_of_update hupdate, State.accessList_onWrite, accessList_beforeWrite]

/-! The byte that a Read-Modify-Write instruction writes, in arithmetic (R239, R240, R252). -/

theorem aslResult_eq (m : Byte) : aslResult m = BitVec.ofNat 8 (2 * m.toNat) := by
  apply BitVec.eq_of_toNat_eq
  rw [aslResult, BitVec.toNat_shiftLeft, BitVec.toNat_ofNat, Nat.shiftLeft_eq, Nat.mul_comm, Nat.pow_one]

theorem lsrResult_eq (m : Byte) : lsrResult m = BitVec.ofNat 8 (m.toNat / 2) := by
  have := m.isLt
  apply BitVec.eq_of_toNat_eq
  rw [lsrResult, BitVec.toNat_ushiftRight, BitVec.toNat_ofNat, Nat.shiftRight_eq_div_pow]
  omega

theorem toNat_bitAt_zero (c : Bool) : (bitAt 0 c).toNat = c.toNat := by cases c <;> rfl

theorem toNat_bitAt_seven (c : Bool) : (bitAt 7 c).toNat = 128 * c.toNat := by cases c <;> rfl

/-- The carry goes into bit 0, which the left shift leaves 0. -/
theorem rolResult_eq (c : Bool) (m : Byte) : rolResult c m = BitVec.ofNat 8 (2 * m.toNat + c.toNat) := by
  have hshift : (m <<< 1).toNat = 2 ^ 1 * (m.toNat % 128) := by
    rw [BitVec.toNat_shiftLeft, Nat.shiftLeft_eq]
    omega
  have hc := c.toNat_lt
  apply BitVec.eq_of_toNat_eq
  rw [rolResult, BitVec.toNat_or, hshift, toNat_bitAt_zero, ← Nat.two_pow_add_eq_or_of_lt hc, BitVec.toNat_ofNat]
  omega

/-- The carry goes into bit 7, which the right shift leaves 0. -/
theorem rorResult_eq (c : Bool) (m : Byte) : rorResult c m = BitVec.ofNat 8 (m.toNat / 2 + 128 * c.toNat) := by
  have hm := m.isLt
  have hc := c.toNat_lt
  have hshift : (m >>> 1).toNat = m.toNat / 2 := by rw [BitVec.toNat_ushiftRight, Nat.shiftRight_eq_div_pow, Nat.pow_one]
  have hlow : m.toNat / 2 < 2 ^ 7 := by omega
  apply BitVec.eq_of_toNat_eq
  rw [rorResult, BitVec.toNat_or, hshift, toNat_bitAt_seven, Nat.or_comm, BitVec.toNat_ofNat,
    ← Nat.two_pow_add_eq_or_of_lt hlow]
  omega

theorem add_one_eq_ofNat (m : Byte) : m + 1 = BitVec.ofNat 8 (m.toNat + 1) := by
  apply BitVec.eq_of_toNat_eq
  rw [BitVec.toNat_add, BitVec.toNat_ofNat]
  rfl

theorem sub_one_eq_ofNat (m : Byte) : m - 1 = BitVec.ofNat 8 (m.toNat + 255) := by
  apply BitVec.eq_of_toNat_eq
  rw [BitVec.toNat_sub, BitVec.toNat_ofNat, Nat.add_comm]
  rfl

/-- The executor's byte is the one the spec computes of the old value and the carry (R239, R240, R252, 45_undocumented.md R351 to
R354, R357, R358). -/
theorem value_eq_modified {mn : Mnemonic} {f : Byte → State → Byte} {exe : Byte → State → State} {acc : State → State}
    (he : executorOf mn = .rmw f exe acc) (m : Byte) (s : State) : f m s = modified mn s.flags.c m := by
  cases mn <;> cases he
  case asl | slo => exact aslResult_eq m
  case lsr | sre => exact lsrResult_eq m
  case rol | rla => exact rolResult_eq s.flags.c m
  case ror | rra => exact rorResult_eq s.flags.c m
  case inc | isc => exact add_one_eq_ofNat m
  case dec | dcp => exact sub_one_eq_ofNat m

/-- Settles O11: the accesses of the mode, then the three at the effective address; the last stores the executor's byte. -/
theorem accessesOfReadModifyWriteInstructions : Obligations.AccessesOfReadModifyWriteInstructions := by
  unfold Obligations.AccessesOfReadModifyWriteInstructions
  intro i s m row ho hrow hg
  obtain ⟨f, exe, acc, he⟩ := Executor.eq_rmw_of_memoryGroup ((group_of_mem ho hrow).symm.trans hg)
  have hupdate : (executorOf i.mnemonic).Update (exe (m.operandRmw s)) := he ▸ .rmw f exe acc _
  refine ⟨_, (m.beforeWrite s).accesses, exec_rmw_mem ho he s, ?_, accessList_beforeWrite m s⟩
  rw [accesses_of_update hupdate, ← value_eq_modified he]
  simp [MemMode.rmwAccesses, MemMode.operandRmw]

end Sys2Proof.Machine
end

section
/-! PROOFS of the family 42_load_store_transfer. What an executor leaves of the registers, the lines and memory in each of the forms
Read, Write and implied, so that a clause turns on the registers that its operation writes (42_load_store_transfer.md R200 to R211;
45_undocumented.md R355, R356, R369). -/

namespace Sys2Proof.Machine

open Sys2Proof.Claims

/-! N and Z (10_state.md R29). -/

/-- The sign bit is the one of weight 128. -/
theorem getLsbD_seven_eq_decide (v : Byte) : v.getLsbD 7 = decide (128 ≤ v.toNat) :=
  (BitVec.msb_eq_getLsbD_last v).symm.trans (BitVec.msb_eq_decide v)

theorem beq_zero_eq_decide (v : Byte) : (v == 0x00#8) = decide (v.toNat = 0) :=
  decide_eq_decide.2 BitVec.toNat_inj.symm

theorem Flags.setNZ_eq_withNZ (f : Flags) (v : Byte) : f.setNZ v = withNZ f v := by
  rw [Flags.setNZ, withNZ, getLsbD_seven_eq_decide, beq_zero_eq_decide]

theorem State.registers_setNZ (s : State) (v : Byte) :
    (s.setNZ v).registers = { s.registers with flags := withNZ s.flags v } := by
  rw [← Flags.setNZ_eq_withNZ]
  rfl

/-! The registers that each operation leaves (R200 to R202, R206 to R211; R356, R369). -/

section
variable (m : Byte) (u : State)

theorem registers_ldaOp :
    (ldaOp m u).registers = { u.registers with a := m, flags := withNZ u.registers.flags m } :=
  State.registers_setNZ { u with a := m } m

theorem registers_ldxOp :
    (ldxOp m u).registers = { u.registers with x := m, flags := withNZ u.registers.flags m } :=
  State.registers_setNZ { u with x := m } m

theorem registers_ldyOp :
    (ldyOp m u).registers = { u.registers with y := m, flags := withNZ u.registers.flags m } :=
  State.registers_setNZ { u with y := m } m

theorem registers_laxOp :
    (laxOp m u).registers = { u.registers with a := m, x := m, flags := withNZ u.registers.flags m } :=
  State.registers_setNZ { u with a := m, x := m } m

theorem registers_lasOp :
    (lasOp m u).registers =
      { u.registers with
        a := m &&& u.registers.sp, x := m &&& u.registers.sp, sp := m &&& u.registers.sp
        flags := withNZ u.registers.flags (m &&& u.registers.sp) } :=
  State.registers_setNZ { u with a := m &&& u.sp, x := m &&& u.sp, sp := m &&& u.sp } (m &&& u.sp)

theorem registers_taxOp :
    (taxOp u).registers = { u.registers with x := u.registers.a, flags := withNZ u.registers.flags u.registers.a } :=
  State.registers_setNZ { u with x := u.a } u.a

theorem registers_tayOp :
    (tayOp u).registers = { u.registers with y := u.registers.a, flags := withNZ u.registers.flags u.registers.a } :=
  State.registers_setNZ { u with y := u.a } u.a

theorem registers_txaOp :
    (txaOp u).registers = { u.registers with a := u.registers.x, flags := withNZ u.registers.flags u.registers.x } :=
  State.registers_setNZ { u with a := u.x } u.x

theorem registers_tyaOp :
    (tyaOp u).registers = { u.registers with a := u.registers.y, flags := withNZ u.registers.flags u.registers.y } :=
  State.registers_setNZ { u with a := u.y } u.y

theorem registers_tsxOp :
    (tsxOp u).registers = { u.registers with x := u.registers.sp, flags := withNZ u.registers.flags u.registers.sp } :=
  State.registers_setNZ { u with x := u.sp } u.sp

theorem registers_txsOp : (txsOp u).registers = { u.registers with sp := u.registers.x } := rfl

end

/-! The forms (41_addressing_modes.md R161, R162, R164). -/

theorem ControlKept.trans {s t u : State} (h : ControlKept s t) (h' : ControlKept t u) : ControlKept s u := by
  obtain ⟨⟨hnmi, hirq, hreset, hic⟩, hhalted⟩ := h
  obtain ⟨⟨hnmi', hirq', hreset', hic'⟩, hhalted'⟩ := h'
  exact ⟨⟨hnmi'.trans hnmi, hirq'.trans hirq, hreset'.trans hreset, hic'.trans hic⟩, hhalted'.trans hhalted⟩

/-- The update of the registers and flags touches no line and halts nothing. -/
theorem controlKept_of_update {m : Mnemonic} {exe : State → State} (h : (executorOf m).Update exe) (s : State) :
    ControlKept s (exe s) := by
  cases m <;> cases h <;> exact ⟨⟨rfl, rfl, rfl, rfl⟩, rfl⟩

/-- An instruction whose accesses only read, and which then updates the registers, changes nothing else. -/
theorem runsTo_of_update {i : Instr} {s u : State} {exe : State → State} (h : (executorOf i.mnemonic).Update exe)
    (hx : exec i s = .next (exe u)) (hkept : ControlKept s u) (hram : u.ram = s.ram) (hcart : u.cart = s.cart) :
    RunsTo i s (exe u).registers := by
  obtain ⟨hram', hcart', -⟩ := sameStore_of_update h u
  exact ⟨exe u, hx, rfl, hkept.trans (controlKept_of_update h u), memoryKept_of_eq (hram'.trans hram) (hcart'.trans hcart)⟩

theorem operandByte_of_mem {i : Instr} {m : MemMode} (ho : i.operand = .mem m) (s : State) :
    operandByte i s = m.operandRead s := by
  simp only [operandByte, ho]

theorem operandByte_of_imm {i : Instr} {d : Byte} (ho : i.operand = .imm d) (s : State) : operandByte i s = d := by
  simp only [operandByte, ho]

/-- What a Read instruction does before its executor, whatever its operand: it changes no memory, and moves PC to the next
instruction. The executor of the NOPs without an operand has no use for a byte. -/
theorem exec_read_next {i : Instr} {exe : Byte → State → State} (he : executorOf i.mnemonic = .read exe) (s : State) :
    ∃ u, exec i s = .next (exe (operandByte i s) u) ∧ u.registers = { s.registers with pc := nextPc i s } ∧
      ControlKept s u ∧ u.ram = s.ram ∧ u.cart = s.cart := by
  obtain ⟨m, ho⟩ | ⟨d, ho⟩ | ⟨hm, ho⟩ := operand_read he
  · obtain ⟨u, hu, hr, hkept, hram, hcart, -⟩ := readInstr_next m exe s
    rw [exec_read_mem ho he, operandByte_of_mem ho, nextPc, length_of_operand ho]
    exact ⟨u, hu, hr, hkept, hram, hcart⟩
  · obtain ⟨u, hu, hr, hkept, hram, hcart, -⟩ := immInstr_next d exe s
    rw [exec_read_imm ho he, operandByte_of_imm ho, nextPc, length_of_operand ho]
    exact ⟨u, hu, hr, hkept, hram, hcart⟩
  · obtain ⟨u, hu, hr, hkept, hram, hcart, -⟩ := impInstr_next nopOp s
    rw [hm] at he
    cases he
    rw [exec_nop_imp hm ho, nextPc, length_of_operand ho]
    exact ⟨u, hu, hr, hkept, hram, hcart⟩

/-- A Read instruction leaves the registers that its executor makes of the operand byte and of the registers with PC at the next
instruction, and changes nothing else. -/
theorem runsTo_of_read {i : Instr} {exe : Byte → State → State} {s : State} {r : Registers}
    (he : executorOf i.mnemonic = .read exe)
    (hr : ∀ u : State, u.registers = { s.registers with pc := nextPc i s } → (exe (operandByte i s) u).registers = r) :
    RunsTo i s r := by
  obtain ⟨u, hx, hu, hkept, hram, hcart⟩ := exec_read_next he s
  rw [← hr u hu]
  exact runsTo_of_update (he ▸ .read exe _) hx hkept hram hcart

/-- The same of an implied instruction, which is one byte long and has no operand byte. -/
theorem runsTo_of_implied {i : Instr} {exe : State → State} {s : State} {r : Registers}
    (he : executorOf i.mnemonic = .implied exe)
    (hr : ∀ u : State, u.registers = { s.registers with pc := s.pc + 1 } → (exe u).registers = r) : RunsTo i s r := by
  obtain ⟨u, hx, hu, hkept, hram, hcart, -⟩ := impInstr_next exe s
  rw [← hr u hu]
  exact runsTo_of_update (he ▸ .implied exe) ((exec_implied he s).trans hx) hkept hram hcart

/-- A store has an effective address, at which it leaves its executor's byte; it changes no register but PC, and nothing else. -/
theorem storesTo_of_write {i : Instr} {v : State → Byte} (he : executorOf i.mnemonic = .write v) (s : State) :
    ∃ m, i.operand = .mem m ∧ StoresTo i s { s.registers with pc := nextPc i s } [(m.ea s, v s)] := by
  obtain ⟨m, ho⟩ := operand_write he
  obtain ⟨t, ht, hr, hkept, hmem, -⟩ := writeInstr_next m v s
  refine ⟨m, ho, t, (exec_write ho he s).trans ht, ?_, hkept, hmem⟩
  rw [hr, nextPc, length_of_operand ho]
  rfl

/-- Settles O20: each is a Read instruction, in every form. -/
theorem loads : Obligations.Loads := by
  unfold Obligations.Loads
  refine fun i s => ⟨fun hm => ?lda, fun hm => ?ldx, fun hm => ?ldy, fun hm => ?lax, fun hm => ?las⟩
  all_goals refine runsTo_of_read (congrArg executorOf hm) fun u hu => ?_
  case lda => rw [registers_ldaOp, hu]; rfl
  case ldx => rw [registers_ldxOp, hu]; rfl
  case ldy => rw [registers_ldyOp, hu]; rfl
  case lax => rw [registers_laxOp, hu]; rfl
  case las => rw [registers_lasOp, hu]; rfl

/-- Settles O21: each is a Write instruction, whose executor's byte is the register or the conjunction of two. -/
theorem stores : Obligations.Stores := by
  unfold Obligations.Stores
  intro i s
  exact ⟨fun hm => storesTo_of_write (v := staValue) (congrArg executorOf hm) s,
    fun hm => storesTo_of_write (v := stxValue) (congrArg executorOf hm) s,
    fun hm => storesTo_of_write (v := styValue) (congrArg executorOf hm) s,
    fun hm => storesTo_of_write (v := saxValue) (congrArg executorOf hm) s⟩

/-- Settles O23: each is an implied instruction; TXS alone does not go through SetNZ. -/
theorem transfers : Obligations.Transfers := by
  unfold Obligations.Transfers
  refine fun s => ⟨⟨rfl, ?tax⟩, ⟨rfl, ?tay⟩, ⟨rfl, ?txa⟩, ⟨rfl, ?tya⟩, ⟨rfl, ?tsx⟩, ⟨rfl, ?txs⟩⟩
  all_goals refine runsTo_of_implied rfl fun u hu => ?_
  case tax => rw [registers_taxOp, hu]; rfl
  case tay => rw [registers_tayOp, hu]; rfl
  case txa => rw [registers_txaOp, hu]; rfl
  case tya => rw [registers_tyaOp, hu]; rfl
  case tsx => rw [registers_tsxOp, hu]; rfl
  case txs => rw [registers_txsOp, hu]; rfl

end Sys2Proof.Machine
end

section
/-! PROOFS of the family 43_arithmetic_logic, the helpers. ADD, COMPARE and the shifts in plain arithmetic, each said once
(43_arithmetic_logic.md R249 to R252). -/

namespace Sys2Proof.Machine

open Sys2Proof.Claims

/-! The sign bit and the signed value of a byte. -/

theorem and_signBit_ne_zero_iff (v : Byte) : v &&& 0x80#8 ≠ 0x00#8 ↔ v.msb = true := by
  have hmask : v &&& 0x80#8 = if v.msb then 0x80#8 else 0x00#8 := by
    rw [BitVec.msb_eq_getLsbD_last]
    exact BitVec.and_twoPow v 7
  rw [hmask]
  cases v.msb <;> decide

theorem toInt_eq_ite (v : Byte) : v.toInt = if v.toNat < 128 then (v.toNat : Int) else v.toNat - 256 := by
  rw [BitVec.toInt_eq_toNat_cond]
  omega

/-! ADD (R250). -/

/-- The document's formula: the sign of the result differs from that of both operands. -/
theorem addOverflow_iff_msb (a m : Byte) (c : Bool) :
    addOverflow a m c = true ↔ a.msb = m.msb ∧ (addResult a m c).msb ≠ a.msb := by
  rw [addOverflow, bne_iff_ne, and_signBit_ne_zero_iff, BitVec.msb_and, BitVec.msb_xor, BitVec.msb_xor]
  cases a.msb <;> cases m.msb <;> cases (addResult a m c).msb <;> decide

/-- By the sizes of the operands: two of one sign have a sum out of range exactly where the ninth bit leaves the other sign. -/
theorem addOverflow_iff_signedSum (a m : Byte) (c : Bool) :
    addOverflow a m c = true ↔ signedSum a m c < -128 ∨ 127 < signedSum a m c := by
  have ha := a.isLt
  have hm := m.isLt
  have hc := c.toNat_lt
  have hr : (addResult a m c).toNat = (a.toNat + m.toNat + c.toNat) % 256 := BitVec.toNat_ofNat _ _
  rw [addOverflow_iff_msb, BitVec.msb_eq_decide, BitVec.msb_eq_decide, BitVec.msb_eq_decide, hr, decide_eq_decide, ne_eq,
    decide_eq_decide, signedSum, toInt_eq_ite, toInt_eq_ite]
  omega

theorem addFlags_eq_addedFlags (f : Flags) (a m : Byte) (c : Bool) : addFlags f a m c = addedFlags f a m c := by
  have hv : addOverflow a m c = decide (signedSum a m c < -128 ∨ 127 < signedSum a m c) :=
    Bool.eq_iff_iff.2 ((addOverflow_iff_signedSum a m c).trans decide_eq_true_iff.symm)
  rw [addFlags, Flags.setNZ_eq_withNZ, hv]
  rfl

/-- Settles O17: V by the document's formula, by the sign bits and by the signed sum. -/
theorem addHelper : Obligations.AddHelper := by
  unfold Obligations.AddHelper
  intro f a m c
  have hsum : sum9 a m c ≤ 511 := by
    have := c.toNat_lt
    rw [sum9]
    omega
  exact ⟨BitVec.toNat_ofNat _ _, hsum, addFlags_eq_addedFlags f a m c, decide_eq_true_iff, bne_iff_ne,
    addOverflow_iff_msb a m c, addOverflow_iff_signedSum a m c⟩

/-! ADD of a complemented byte is the subtraction (R231; 92_eei_decisions.md D25). -/

theorem toNat_complement (m : Byte) : (m ^^^ 0xFF#8).toNat = 255 - m.toNat :=
  (congrArg BitVec.toNat BitVec.xor_allOnes).trans BitVec.toNat_not

theorem sum9_complement (a m : Byte) (c : Bool) : (sum9 a (m ^^^ 0xFF#8) c : Int) = difference a m c + 256 := by
  rw [sum9, toNat_complement, difference]
  omega

theorem signedSum_complement (a m : Byte) (c : Bool) : signedSum a (m ^^^ 0xFF#8) c = signedDifference a m c := by
  have hm := m.isLt
  rw [signedSum, signedDifference, toInt_eq_ite (m ^^^ 0xFF#8), toInt_eq_ite m, toNat_complement]
  omega

theorem ofNat_sum9_complement (a m : Byte) (c : Bool) :
    BitVec.ofNat 8 (sum9 a (m ^^^ 0xFF#8) c) = BitVec.ofInt 8 (difference a m c) := by
  rw [← BitVec.ofInt_natCast, sum9_complement, BitVec.ofInt_add]
  exact BitVec.add_zero _

/-- No borrow occurs exactly where the sum has a ninth bit. -/
theorem le_sum9_complement_iff (a m : Byte) (c : Bool) : 256 ≤ sum9 a (m ^^^ 0xFF#8) c ↔ 0 ≤ difference a m c := by
  have := sum9_complement a m c
  omega

theorem added_complement (r : Registers) (m : Byte) : added r (m ^^^ 0xFF#8) = subtracted r m := by
  simp only [added, addedFlags, subtracted, ofNat_sum9_complement, signedSum_complement, le_sum9_complement_iff]

/-! COMPARE (R251). -/

theorem sub_eq_ofNat (r m : Byte) : r - m = BitVec.ofNat 8 (256 + r.toNat - m.toNat) := by
  apply BitVec.eq_of_toNat_eq
  rw [BitVec.toNat_sub, BitVec.toNat_ofNat]
  omega

theorem compareFlags_eq_compared (f : Flags) (r m : Byte) : compareFlags f r m = compared f r m := by
  rw [compareFlags, Flags.setNZ_eq_withNZ, compared, ← sub_eq_ofNat]
  rfl

theorem sub_beq_zero_iff (r m : Byte) : (r - m == 0x00#8) = true ↔ r = m := by
  rw [beq_iff_eq, BitVec.sub_eq_iff_eq_add, BitVec.zero_add]

/-- Settles O18: -128 is less than 1, but the difference wraps to 127, which has bit 7 clear. -/
theorem compareHelper : Obligations.CompareHelper := by
  unfold Obligations.CompareHelper
  intro f r m
  exact ⟨compareFlags_eq_compared f r m, decide_eq_true_iff, sub_beq_zero_iff r m, (BitVec.msb_eq_getLsbD_last _).symm,
    rfl, rfl, rfl, 0x80#8, 0x01#8, by decide, rfl⟩

/-! The shifts and rotates (R252): the flags, then the rotates as rotations of nine bits. -/

theorem getLsbD_zero_eq_decide (m : Byte) : m.getLsbD 0 = decide (m.toNat % 2 = 1) := Nat.testBit_zero m.toNat

section
variable (f : Flags) (m : Byte)

theorem aslFlags_eq : aslFlags f m = withNZ { f with c := decide (128 ≤ m.toNat) } (aslResult m) := by
  rw [aslFlags, Flags.setNZ_eq_withNZ, getLsbD_seven_eq_decide]
  rfl

theorem lsrFlags_eq : lsrFlags f m = withNZ { f with c := decide (m.toNat % 2 = 1) } (lsrResult m) := by
  rw [lsrFlags, Flags.setNZ_eq_withNZ, getLsbD_zero_eq_decide]
  rfl

theorem rolFlags_eq : rolFlags f m = withNZ { f with c := decide (128 ≤ m.toNat) } (rolResult f.c m) := by
  rw [rolFlags, Flags.setNZ_eq_withNZ, getLsbD_seven_eq_decide]
  rfl

theorem rorFlags_eq : rorFlags f m = withNZ { f with c := decide (m.toNat % 2 = 1) } (rorResult f.c m) := by
  rw [rorFlags, Flags.setNZ_eq_withNZ, getLsbD_zero_eq_decide]
  rfl

end

theorem toNat_aslResult (m : Byte) : (aslResult m).toNat = 2 * m.toNat % 256 := by
  rw [aslResult_eq, BitVec.toNat_ofNat]

theorem toNat_lsrResult (m : Byte) : (lsrResult m).toNat = m.toNat / 2 := by
  rw [lsrResult_eq, BitVec.toNat_ofNat]
  omega

theorem toNat_rolResult (c : Bool) (m : Byte) : (rolResult c m).toNat = 2 * m.toNat % 256 + c.toNat := by
  have := c.toNat_lt
  rw [rolResult_eq, BitVec.toNat_ofNat]
  omega

theorem toNat_rorResult (c : Bool) (m : Byte) : (rorResult c m).toNat = m.toNat / 2 + 128 * c.toNat := by
  have := c.toNat_lt
  rw [rorResult_eq, BitVec.toNat_ofNat]
  omega

/-- Bit 7 of a halved byte is clear. -/
theorem lsrFlags_n (f : Flags) (m : Byte) : (lsrFlags f m).n = false := by
  rw [lsrFlags_eq]
  exact decide_eq_false (by rw [toNat_lsrResult]; omega)

theorem toNat_decide (p : Prop) [Decidable p] : (decide p).toNat = if p then 1 else 0 := Bool.cond_decide p 1 0

/-- C and a byte, read as nine bits. -/
theorem toNat_ofBool_append (c : Bool) (m : Byte) : (BitVec.ofBool c ++ m).toNat = 256 * c.toNat + m.toNat := by
  rw [BitVec.toNat_append, BitVec.toNat_ofBool, Nat.shiftLeft_eq, Nat.mul_comm, ← Nat.two_pow_add_eq_or_of_lt m.isLt]

/-- A rotation by one doubles the lower bits and moves the top bit to the bottom. -/
theorem toNat_rotateLeft_one (x : BitVec 9) : (x.rotateLeft 1).toNat = 2 * (x.toNat % 256) + x.toNat / 256 := by
  have htop : x.toNat / 256 < 2 ^ 1 := by omega
  have hlow : x.toNat <<< 1 % 2 ^ 9 = 2 ^ 1 * (x.toNat % 256) := by
    rw [Nat.shiftLeft_eq]
    omega
  rw [BitVec.toNat_rotateLeft, hlow, Nat.shiftRight_eq_div_pow]
  exact (Nat.two_pow_add_eq_or_of_lt htop _).symm

theorem toNat_rotateRight_one (x : BitVec 9) : (x.rotateRight 1).toNat = x.toNat / 2 + 256 * (x.toNat % 2) := by
  have hlow : x.toNat / 2 < 2 ^ 8 := by omega
  have htop : x.toNat <<< 8 % 2 ^ 9 = 2 ^ 8 * (x.toNat % 2) := by
    rw [Nat.shiftLeft_eq]
    omega
  rw [BitVec.toNat_rotateRight, Nat.or_comm, Nat.shiftRight_eq_div_pow, Nat.add_comm]
  exact (congrArg (· ||| _) htop).trans (Nat.two_pow_add_eq_or_of_lt hlow _).symm

theorem rotateLeft_carry_append (c : Bool) (m : Byte) :
    (BitVec.ofBool (decide (128 ≤ m.toNat)) ++ rolResult c m : BitVec 9) = (BitVec.ofBool c ++ m : BitVec 9).rotateLeft 1 := by
  have := c.toNat_lt
  apply BitVec.eq_of_toNat_eq
  rw [toNat_rotateLeft_one, toNat_ofBool_append, toNat_ofBool_append, toNat_rolResult, toNat_decide]
  split <;> omega

theorem rotateRight_carry_append (c : Bool) (m : Byte) :
    (BitVec.ofBool (decide (m.toNat % 2 = 1)) ++ rorResult c m : BitVec 9) =
      (BitVec.ofBool c ++ m : BitVec 9).rotateRight 1 := by
  have := c.toNat_lt
  apply BitVec.eq_of_toNat_eq
  rw [toNat_rotateRight_one, toNat_ofBool_append, toNat_ofBool_append, toNat_rorResult, toNat_decide]
  split <;> omega

/-- Settles O19: helper by helper the result, the flags, and what the helper has of its own. -/
theorem shiftHelpers : Obligations.ShiftHelpers := by
  unfold Obligations.ShiftHelpers
  intro f m
  have hmsb : m.msb = decide (128 ≤ m.toNat) := BitVec.msb_eq_decide m
  rw [hmsb, rolFlags_eq, rorFlags_eq]
  exact ⟨⟨toNat_aslResult m, aslFlags_eq f m⟩, ⟨toNat_lsrResult m, lsrFlags_eq f m, lsrFlags_n f m⟩,
    ⟨toNat_rolResult f.c m, rfl, rotateLeft_carry_append f.c m⟩,
    ⟨toNat_rorResult f.c m, rfl, rotateRight_carry_append f.c m⟩⟩

end Sys2Proof.Machine
end

section
/-! PROOFS of the family 43_arithmetic_logic, the instructions. The registers that each operation leaves, and what a Read-Modify-Write
instruction leaves in its memory and its accumulator form (43_arithmetic_logic.md R230 to R248; 45_undocumented.md R370). -/

namespace Sys2Proof.Machine

open Sys2Proof.Claims

/-! The registers that each Read or implied operation leaves (R230 to R238, R241 to R244). -/

section
variable (m : Byte) (u : State)

theorem registers_addToA : (addToA m u).registers = added u.registers m :=
  congrArg (fun f => { u.registers with a := addResult u.a m u.flags.c, flags := f })
    (addFlags_eq_addedFlags u.flags u.a m u.flags.c)

theorem registers_addToA_complement : (addToA (m ^^^ 0xFF#8) u).registers = subtracted u.registers m := by
  rw [registers_addToA, added_complement]

theorem registers_andOp :
    (andOp m u).registers =
      { u.registers with a := u.registers.a &&& m, flags := withNZ u.registers.flags (u.registers.a &&& m) } :=
  State.registers_setNZ { u with a := u.a &&& m } (u.a &&& m)

theorem registers_oraOp :
    (oraOp m u).registers =
      { u.registers with a := u.registers.a ||| m, flags := withNZ u.registers.flags (u.registers.a ||| m) } :=
  State.registers_setNZ { u with a := u.a ||| m } (u.a ||| m)

theorem registers_eorOp :
    (eorOp m u).registers =
      { u.registers with a := u.registers.a ^^^ m, flags := withNZ u.registers.flags (u.registers.a ^^^ m) } :=
  State.registers_setNZ { u with a := u.a ^^^ m } (u.a ^^^ m)

theorem registers_bitOp :
    (bitOp m u).registers =
      { u.registers with
        flags :=
          { u.registers.flags with
            n := m.getLsbD 7, v := m.getLsbD 6, z := decide (u.registers.a &&& m = 0x00#8) } } := rfl

theorem registers_cmpOp :
    (cmpOp m u).registers = { u.registers with flags := compared u.registers.flags u.registers.a m } := by
  rw [← compareFlags_eq_compared]
  rfl

theorem registers_cpxOp :
    (cpxOp m u).registers = { u.registers with flags := compared u.registers.flags u.registers.x m } := by
  rw [← compareFlags_eq_compared]
  rfl

theorem registers_cpyOp :
    (cpyOp m u).registers = { u.registers with flags := compared u.registers.flags u.registers.y m } := by
  rw [← compareFlags_eq_compared]
  rfl

theorem registers_inxOp :
    (inxOp u).registers =
      { u.registers with x := u.registers.x + 1, flags := withNZ u.registers.flags (u.registers.x + 1) } :=
  State.registers_setNZ { u with x := u.x + 1 } (u.x + 1)

theorem registers_inyOp :
    (inyOp u).registers =
      { u.registers with y := u.registers.y + 1, flags := withNZ u.registers.flags (u.registers.y + 1) } :=
  State.registers_setNZ { u with y := u.y + 1 } (u.y + 1)

theorem registers_dexOp :
    (dexOp u).registers =
      { u.registers with x := u.registers.x - 1, flags := withNZ u.registers.flags (u.registers.x - 1) } :=
  State.registers_setNZ { u with x := u.x - 1 } (u.x - 1)

theorem registers_deyOp :
    (deyOp u).registers =
      { u.registers with y := u.registers.y - 1, flags := withNZ u.registers.flags (u.registers.y - 1) } :=
  State.registers_setNZ { u with y := u.y - 1 } (u.y - 1)

end

theorem ofNat_mod_eq_ofNat (n : Nat) : BitVec.ofNat 8 (n % 256) = BitVec.ofNat 8 n :=
  BitVec.eq_of_toNat_eq (Nat.mod_mod n 256)

/-- Settles O24: each is an implied instruction; its byte and its row are those of the statement. -/
theorem incrementAndDecrementOfIndexRegisters : Obligations.IncrementAndDecrementOfIndexRegisters := by
  unfold Obligations.IncrementAndDecrementOfIndexRegisters
  intro s
  simp only [ofNat_mod_eq_ofNat, ← add_one_eq_ofNat, ← sub_one_eq_ofNat]
  refine ⟨⟨rfl, rfl, ?inx⟩, ⟨rfl, rfl, ?iny⟩, ⟨rfl, rfl, ?dex⟩, ⟨rfl, rfl, ?dey⟩⟩
  all_goals refine runsTo_of_implied rfl fun u hu => ?_
  case inx => rw [registers_inxOp, hu]; rfl
  case iny => rw [registers_inyOp, hu]; rfl
  case dex => rw [registers_dexOp, hu]; rfl
  case dey => rw [registers_deyOp, hu]; rfl

/-- Settles O25: each is a Read instruction; SBC and USBC add the complement. -/
theorem addAndSubtract : Obligations.AddAndSubtract := by
  unfold Obligations.AddAndSubtract
  refine fun i s => ⟨fun hm => ?adc, fun hm => ?sbc, fun hm => ?usbc⟩
  all_goals refine runsTo_of_read (congrArg executorOf hm) fun u hu => ?_
  case adc => exact (registers_addToA _ u).trans (by rw [hu]; rfl)
  case sbc => exact (registers_addToA_complement _ u).trans (by rw [hu]; rfl)
  case usbc => exact (registers_addToA_complement _ u).trans (by rw [hu]; rfl)

/-- Settles O26: each is a Read instruction. -/
theorem logic : Obligations.Logic := by
  unfold Obligations.Logic
  refine fun i s => ⟨fun hm => ?and, fun hm => ?ora, fun hm => ?eor, fun hm => ?bit⟩
  all_goals refine runsTo_of_read (congrArg executorOf hm) fun u hu => ?_
  case and => rw [registers_andOp, hu]; rfl
  case ora => rw [registers_oraOp, hu]; rfl
  case eor => rw [registers_eorOp, hu]; rfl
  case bit => rw [registers_bitOp, hu]; rfl

/-- Settles O27: each is a Read instruction. -/
theorem compares : Obligations.Compares := by
  unfold Obligations.Compares
  refine fun i s => ⟨fun hm => ?cmp, fun hm => ?cpx, fun hm => ?cpy⟩
  all_goals refine runsTo_of_read (congrArg executorOf hm) fun u hu => ?_
  case cmp => rw [registers_cmpOp, hu]; rfl
  case cpx => rw [registers_cpxOp, hu]; rfl
  case cpy => rw [registers_cpyOp, hu]; rfl

/-! The Read-Modify-Write instructions (41_addressing_modes.md R161, R163). -/

/-- A Read-Modify-Write instruction on memory stores the byte of the spec at its effective address, leaves the registers that its
executor makes of the old value and of the registers with PC at the next instruction, and changes nothing else. -/
theorem storesTo_of_rmw {i : Instr} {m : MemMode} {f : Byte → State → Byte} {exe : Byte → State → State}
    {acc : State → State} {s : State} {r : Registers} (he : executorOf i.mnemonic = .rmw f exe acc) (ho : i.operand = .mem m)
    (hr : ∀ u : State, u.registers = { s.registers with pc := nextPc i s } → (exe (m.operandRmw s) u).registers = r) :
    StoresTo i s r [(m.ea s, modified i.mnemonic s.flags.c (m.operandRmw s))] := by
  have hupdate : (executorOf i.mnemonic).Update (exe (m.operandRmw s)) := he ▸ .rmw f exe acc _
  obtain ⟨u, hx, hu, hkept, hmem, -⟩ := rmwInstr_next m f exe s
  obtain ⟨hram, hcart, -⟩ := sameStore_of_update hupdate u
  rw [← length_of_mem ho] at hu
  rw [← hr u hu, ← value_eq_modified he]
  exact ⟨_, (exec_rmw_mem ho he s).trans hx, rfl, hkept.trans (controlKept_of_update hupdate u),
    memoryAfter_of_eq rfl rfl hram hcart hmem⟩

/-- On the accumulator it is one byte long, and changes nothing but what its accumulator form does of the registers. -/
theorem runsTo_of_acc {i : Instr} {f : Byte → State → Byte} {exe : Byte → State → State} {acc : State → State} {s : State}
    {r : Registers} (he : executorOf i.mnemonic = .rmw f exe acc) (ho : i.operand = .acc)
    (hr : ∀ u : State, u.registers = { s.registers with pc := s.pc + 1 } → (acc u).registers = r) : RunsTo i s r := by
  obtain ⟨u, hx, hu, hkept, hram, hcart, -⟩ := impInstr_next acc s
  rw [← hr u hu]
  exact runsTo_of_update (he ▸ .acc f exe acc) ((exec_rmw_acc ho he s).trans hx) hkept hram hcart

/-- The flags that an operation on a byte leaves, in the statements' arithmetic: N and Z of the byte it makes, C of the bit it moves
out, if any (R239, R240, R252). -/
def modifiedFlags (mn : Mnemonic) (f : Flags) (m : Byte) : Flags :=
  withNZ { f with c := shiftedOut mn f.c m } (modified mn f.c m)

section
variable (f : Flags) (m : Byte)

theorem aslFlags_eq_modifiedFlags : aslFlags f m = modifiedFlags .asl f m := by rw [aslFlags_eq, aslResult_eq]; rfl
theorem lsrFlags_eq_modifiedFlags : lsrFlags f m = modifiedFlags .lsr f m := by rw [lsrFlags_eq, lsrResult_eq]; rfl
theorem rolFlags_eq_modifiedFlags : rolFlags f m = modifiedFlags .rol f m := by rw [rolFlags_eq, rolResult_eq]; rfl
theorem rorFlags_eq_modifiedFlags : rorFlags f m = modifiedFlags .ror f m := by rw [rorFlags_eq, rorResult_eq]; rfl

theorem setNZ_add_one_eq_modifiedFlags : f.setNZ (m + 1) = modifiedFlags .inc f m := by
  rw [Flags.setNZ_eq_withNZ, add_one_eq_ofNat]
  rfl

theorem setNZ_sub_one_eq_modifiedFlags : f.setNZ (m - 1) = modifiedFlags .dec f m := by
  rw [Flags.setNZ_eq_withNZ, sub_one_eq_ofNat]
  rfl

end

/-- The memory form of each leaves the registers as they are but for the flags. -/
theorem registers_rmw {mn : Mnemonic} {f : Byte → State → Byte} {exe : Byte → State → State} {acc : State → State}
    (hmn : mn ∈ [.inc, .dec, .asl, .lsr, .rol, .ror]) (he : executorOf mn = .rmw f exe acc) (m : Byte) (u : State) :
    (exe m u).registers = { u.registers with flags := modifiedFlags mn u.registers.flags m } := by
  have hflags {g g' : Flags} (h : g = g') : ({ u with flags := g } : State).registers = { u.registers with flags := g' } := by
    rw [h]
    rfl
  cases mn <;> cases he
  case asl => exact hflags (aslFlags_eq_modifiedFlags u.flags m)
  case lsr => exact hflags (lsrFlags_eq_modifiedFlags u.flags m)
  case rol => exact hflags (rolFlags_eq_modifiedFlags u.flags m)
  case ror => exact hflags (rorFlags_eq_modifiedFlags u.flags m)
  case inc => exact hflags (setNZ_add_one_eq_modifiedFlags u.flags m)
  case dec => exact hflags (setNZ_sub_one_eq_modifiedFlags u.flags m)
  all_goals simp at hmn

/-- The accumulator form of each puts the byte into A, with the same flags. -/
theorem registers_acc {mn : Mnemonic} {f : Byte → State → Byte} {exe : Byte → State → State} {acc : State → State}
    (hmn : mn ∈ [.asl, .lsr, .rol, .ror]) (he : executorOf mn = .rmw f exe acc) (u : State) :
    (acc u).registers =
      { u.registers with
        a := modified mn u.registers.flags.c u.registers.a, flags := modifiedFlags mn u.registers.flags u.registers.a } := by
  have hregs {v v' : Byte} {g g' : Flags} (hv : v = v') (hg : g = g') :
      ({ u with a := v, flags := g } : State).registers = { u.registers with a := v', flags := g' } := by
    rw [hv, hg]
    rfl
  cases mn <;> cases he
  case asl => exact hregs (aslResult_eq u.a) (aslFlags_eq_modifiedFlags u.flags u.a)
  case lsr => exact hregs (lsrResult_eq u.a) (lsrFlags_eq_modifiedFlags u.flags u.a)
  case rol => exact hregs (rolResult_eq u.flags.c u.a) (rolFlags_eq_modifiedFlags u.flags u.a)
  case ror => exact hregs (rorResult_eq u.flags.c u.a) (rorFlags_eq_modifiedFlags u.flags u.a)
  all_goals simp at hmn

theorem executorOf_of_modifies {mn : Mnemonic} (h : mn ∈ [.inc, .dec, .asl, .lsr, .rol, .ror]) :
    ∃ f exe acc, executorOf mn = .rmw f exe acc := by
  cases mn
  case inc | dec | asl | lsr | rol | ror => exact ⟨_, _, _, rfl⟩
  all_goals simp at h

/-- Settles O28: each is a Read-Modify-Write instruction, whose executor writes the flags alone. -/
theorem modifiedMemory : Obligations.ModifiedMemory := by
  unfold Obligations.ModifiedMemory
  intro i s m hm ho
  obtain ⟨f, exe, acc, he⟩ := executorOf_of_modifies hm
  refine storesTo_of_rmw he ho fun u hu => ?_
  rw [registers_rmw hm he, hu]
  rfl

theorem operand_mnemonic_of_accumulatorShift {i : Instr} (h : i ∈ [.aslAcc, .lsrAcc, .rolAcc, .rorAcc]) :
    i.operand = .acc ∧ i.mnemonic ∈ [.asl, .lsr, .rol, .ror] := by
  simp only [List.mem_cons, List.not_mem_nil, or_false] at h
  obtain rfl | rfl | rfl | rfl := h <;> exact ⟨rfl, by decide⟩

/-- Settles O29: each is a Read-Modify-Write instruction on the accumulator. -/
theorem accumulatorShifts : Obligations.AccumulatorShifts := by
  unfold Obligations.AccumulatorShifts
  intro s i h
  obtain ⟨ho, hm⟩ := operand_mnemonic_of_accumulatorShift h
  obtain ⟨f, exe, acc, he⟩ := executorOf_of_acc ho
  refine runsTo_of_acc he ho fun u hu => ?_
  rw [registers_acc hm he, hu]
  rfl

end Sys2Proof.Machine
end

section
/-! PROOFS of the family 44_control_stack_flags, the sequences. The accesses and the target words of the control and stack
instructions, each said once (44_control_stack_flags.md R300 to R306, R315 to R318). -/

namespace Sys2Proof.Machine

open Sys2Proof.Claims

/-! The accesses of the stack operations and of the exception entry (00_scope.md R11; 60_exceptions.md R407). -/

@[simp] theorem State.accessList_touchStack (s : State) :
    s.touchStack.accessList = s.accessList ++ [(.read, stackAddr s.sp)] := by
  simp [State.accessList]

theorem State.accessList_enterVector (s : State) (b : Bool) (vec : Word) :
    (s.enterVector b vec).accessList =
      s.accessList ++ [(.write, stackAddr s.sp), (.write, stackAddr (s.sp - 1)), (.write, stackAddr (s.sp - 2))] ++
        reads [vec, vec + 1] := by
  simp [State.accessList, State.enterVector, reads, sub_two]

theorem State.accessList_returnFromVector (s : State) :
    s.returnFromVector.accessList =
      s.accessList ++ reads [stackAddr (s.sp + 1), stackAddr (s.sp + 2), stackAddr (s.sp + 3)] := by
  simp [State.accessList, State.returnFromVector, reads, BitVec.add_assoc]

@[simp] theorem accessList_stackPrefix (s : State) : (stackPrefix s).accessList = reads [s.pc, s.pc + 1] := by
  simp [stackPrefix, reads]

/-- The accesses of a branch (41_addressing_modes.md R174). -/
theorem branchInstr_accessList (taken : Bool) (d : Byte) (s : State) :
    ∃ t, branchInstr taken d s = .next t ∧
      t.accessList =
        reads ([s.pc, s.pc + 1] ++
          (if taken then
            if hi (branchTarget (s.pc + 2) d) = hi (s.pc + 2) then [s.pc + 2]
            else [s.pc + 2, w16 (hi (s.pc + 2)) (lo (branchTarget (s.pc + 2) d))]
          else [])) := by
  have hpc : s.fetchOpcode.onFetch.pc = s.pc + 2 := by simp [BitVec.add_assoc]
  cases taken with
  | false => exact ⟨_, rfl, by simp [reads]⟩
  | true =>
    simp only [branchInstr, hpc, Bool.not_true, Bool.false_eq_true, if_false, if_true]
    split
    · exact ⟨_, rfl, by simp [State.accessList, reads]⟩
    · exact ⟨_, rfl, by simp [State.accessList, reads]⟩

/-! The words that PC is loaded with. -/

theorem w16_eq_ofNat (h l : Byte) : w16 h l = BitVec.ofNat 16 (256 * h.toNat + l.toNat) := by
  have := h.isLt
  have := l.isLt
  rw [← BitVec.toNat_inj, toNat_w16, BitVec.toNat_ofNat]
  omega

/-- The word at two stack cells, as reads of them give it in any state with the same RAM. -/
theorem wordAt_stack {s t : State} (hram : t.ram = s.ram) (l h : Byte) :
    wordAt s (stackAddr l) (stackAddr h) = w16 (t.readValue (stackAddr h)) (t.readValue (stackAddr l)) := by
  simp [wordAt, hram]

/-- The page-wrap bug as the spec tells it: the high byte's address stays on the pointer's page (R171, R301). -/
theorem indirectHighAddress_eq (p : Word) :
    indirectHighAddress p = if p.toNat % 256 = 255 then p - 0xFF#16 else p + 1 := by
  have := p.isLt
  have hlow : (lo p + 1).toNat = (p.toNat % 256 + 1) % 256 := by rw [BitVec.toNat_add, toNat_lo]; rfl
  have hnext : (p + 1).toNat = (p.toNat + 1) % 65536 := BitVec.toNat_add p 1
  have hstart : (p - 0xFF#16).toNat = (65281 + p.toNat) % 65536 := BitVec.toNat_sub p 0xFF#16
  rw [← BitVec.toNat_inj, indirectHighAddress, toNat_w16, hlow, toNat_hi]
  split <;> omega

/-- The branch target in integers: the offset is signed, the sum modulo 65536 (R174; 30_encoding.md R113). -/
theorem branchTarget_eq_ofInt (pc : Word) (d : Byte) :
    branchTarget (pc + 2) d = BitVec.ofInt 16 ((pc.toNat : Int) + 2 + d.toInt) := by
  rw [branchTarget, sext16, BitVec.signExtend, BitVec.ofInt_add, BitVec.ofInt_add, BitVec.ofInt_natCast, BitVec.ofNat_toNat,
    BitVec.setWidth_eq]
  rfl

/-- The byte that PHP and BRK push is the live status byte with bits 5 and 4 set (92_eei_decisions.md D6). -/
theorem packP_true (f : Flags) : packP f true = packP f false ||| 0x30#8 := by
  obtain ⟨n, v, d, i, z, c⟩ := f
  revert n v d i z c
  decide

/-- An instruction that changes neither the RAM array nor the cartridge changes no memory. -/
theorem runsTo_of_sameStore {i : Instr} {s t : State} {r : Registers} (hx : exec i s = .next t) (hr : t.registers = r)
    (hkept : ControlKept s t) (hstore : SameStore s t) : RunsTo i s r :=
  ⟨t, hx, hr, hkept, memoryKept_of_eq hstore.ram hstore.cart⟩

end Sys2Proof.Machine
end

section
/-! PROOFS of the family 44_control_stack_flags, the instructions. What each control, stack and flag instruction leaves of the
registers, the lines and memory, and the accesses it makes (44_control_stack_flags.md R300 to R327). -/

namespace Sys2Proof.Machine

open Sys2Proof.Claims

/-! Jumps (R300, R301). -/

theorem runsTo_jmpAbs (p : Word) (s : State) : RunsTo (.jmpAbs p) s { s.registers with pc := p } :=
  runsTo_of_sameStore rfl (by simp [State.registers]) (by simp [ControlKept, LinesKept]) {}

/-- JMP indirect writes PC alone, wherever its pointer lies, and reads the two pointer cells in order. -/
theorem exec_jmpInd_next (p : Word) (s : State) :
    ∃ t, exec (.jmpInd p) s = .next t ∧ t.registers = { s.registers with pc := t.pc } ∧ ControlKept s t ∧
      SameStore s t ∧
      (∀ l h, s.peek p = some l → s.peek (indirectHighAddress p) = some h → t.pc = w16 h l) ∧
      t.accessList = reads [s.pc, s.pc + 1, s.pc + 2, p, indirectHighAddress p] := by
  refine ⟨_, rfl, by simp [State.registers], by simp [ControlKept, LinesKept], {}, fun l h hl hh => ?pc, ?accesses⟩
  case pc =>
    have hlow : s.fetchOpcode.onFetch.onFetch.readValue p = l := State.readValue_of_peek (by simpa using hl)
    have hhigh : (s.fetchOpcode.onFetch.onFetch.onRead p).readValue (indirectHighAddress p) = h :=
      State.readValue_of_peek (by simpa using hh)
    rw [hlow, hhigh]
  case accesses => simp [State.accessList, reads, BitVec.add_assoc]

/-- Settles O34: JMP indirect by its own sequence, with the address of the high byte as the spec tells it. -/
theorem jumps : Obligations.Jumps := by
  unfold Obligations.Jumps
  intro s p
  obtain ⟨t, ht, hr, hkept, hstore, hpc, hacc⟩ := exec_jmpInd_next p s
  rw [indirectHighAddress_eq] at hpc hacc
  refine ⟨⟨runsTo_jmpAbs p s, _, rfl, ?absolute⟩, fun l h hl hh => ⟨?indirect, t, ht, hacc⟩,
    t, ht, hr, hkept, memoryKept_of_eq hstore.ram hstore.cart⟩
  case absolute => simp [State.accessList, reads, BitVec.add_assoc]
  case indirect =>
    refine runsTo_of_sameStore ht ?_ hkept hstore
    rw [hr, hpc l h hl hh, w16_eq_ofNat]

/-! Subroutines (R302, R303). -/

/-- The bytes pushed by JSR are those of the address of its third byte, which it reads only after them (log 16). -/
theorem exec_jsr_next (a : Word) (s : State) :
    ∃ t, exec (.jsr a) s = .next t ∧
      t.registers = { s.registers with sp := s.sp - 2, pc := t.pc } ∧ lo t.pc = lo a ∧ ControlKept s t ∧
      MemoryAfter s t [(stackAddr s.sp, hi (s.pc + 2)), (stackAddr (s.sp - 1), lo (s.pc + 2))] ∧
      (∀ h, t.peek (s.pc + 2) = some h → hi t.pc = h) ∧
      t.accessList =
        reads [s.pc, s.pc + 1, stackAddr s.sp] ++ [(.write, stackAddr s.sp), (.write, stackAddr (s.sp - 1))] ++
          reads [s.pc + 2] := by
  have hpc : s.fetchOpcode.onFetch.touchStack.pc = s.pc + 2 := by simp [BitVec.add_assoc]
  simp only [← hpc]
  refine ⟨_, rfl, ?registers, ?low, ?control, ?memory, fun h hh => ?high, ?accesses⟩
  case registers => simp [State.registers, sub_two]
  case low => exact lo_w16 _ _
  case control => simp [ControlKept, LinesKept]
  case memory =>
    have hpushes := memoryAfter_push_two s.fetchOpcode.onFetch.touchStack (hi s.fetchOpcode.onFetch.touchStack.pc)
      (lo s.fetchOpcode.onFetch.touchStack.pc)
    simp only [State.touchStack_sp, State.onFetch_sp, State.fetchOpcode_sp] at hpushes
    exact memoryAfter_of_eq (s' := s.fetchOpcode.onFetch.touchStack) (by simp) (by simp) (by simp) (by simp) hpushes
  case high =>
    simp only [hi_w16, State.push_pc]
    exact State.readValue_of_peek ((State.peek_congr (by simp) (by simp) _).trans hh)
  case accesses => simp [State.accessList, reads]

theorem exec_rts_next (s : State) :
    ∃ t, exec .rts s = .next t ∧
      t.registers =
        { s.registers with sp := s.sp + 2, pc := wordAt s (stackAddr (s.sp + 1)) (stackAddr (s.sp + 2)) + 1 } ∧
      ControlKept s t ∧ SameStore s t ∧
      t.accessList =
        reads [s.pc, s.pc + 1, stackAddr s.sp, stackAddr (s.sp + 1), stackAddr (s.sp + 2),
          wordAt s (stackAddr (s.sp + 1)) (stackAddr (s.sp + 2))] := by
  rw [wordAt_stack (t := s) rfl]
  refine ⟨_, rfl, ?registers, by simp [ControlKept, LinesKept], {}, ?accesses⟩
  case registers => simp [State.registers, State.pullValue, add_two]
  case accesses => simp [State.accessList, State.pullValue, reads, add_two]

/-- A store on the stack reads back. -/
theorem Stored.peek_stack {s t : State} {sp v : Byte} (h : Stored s t (stackAddr sp) v) : t.peek (stackAddr sp) = some v := by
  rwa [Stored, State.writable_stack, if_pos rfl] at h

/-- Settles O35: RTS after JSR pulls the word that the two pushes left at the stack cells above the new S. -/
theorem callAndReturn : Obligations.CallAndReturn := by
  unfold Obligations.CallAndReturn
  intro s a
  refine ⟨exec_jsr_next a s, ?rts, ?inverse⟩
  case rts =>
    obtain ⟨t, ht, hr, hkept, hstore, hacc⟩ := exec_rts_next s
    exact ⟨runsTo_of_sameStore ht hr hkept hstore, t, ht, hacc⟩
  case inverse =>
    obtain ⟨t, ht, hr, -, -, ⟨-, hstored⟩, -, -⟩ := exec_jsr_next a s
    obtain ⟨u, hu, hur, -, hstore, -⟩ := exec_rts_next t
    refine ⟨t, u, ht, hu, ?_, memoryKept_of_eq hstore.ram hstore.cart⟩
    have hhi : t.peek (stackAddr s.sp) = some (hi (s.pc + 2)) := (hstored _ List.mem_cons_self).peek_stack
    have hlo : t.peek (stackAddr (s.sp - 1)) = some (lo (s.pc + 2)) :=
      (hstored _ (List.mem_cons_of_mem _ List.mem_cons_self)).peek_stack
    have hsp : t.sp = s.sp - 2 := congrArg Registers.sp hr
    have hsp1 : s.sp - 2 + 1 = s.sp - 1 := by bv_omega
    have hsp2 : s.sp - 2 + 2 = s.sp := BitVec.sub_add_cancel s.sp 2
    have hpc : s.pc + 2 + 1 = s.pc + 3 := BitVec.add_assoc s.pc 2 1
    rw [hur, hr, hsp, hsp1, hsp2, wordAt, hhi, hlo, Option.getD_some, Option.getD_some, w16_hi_lo, hpc]
    rfl

/-! BRK and RTI (R304, R305; 60_exceptions.md R410, R411). -/

/-- Settles O36: the padding byte is fetched, so the entry pushes the BRK address + 2. -/
theorem breakTakesException : Obligations.Break := by
  unfold Obligations.Break
  intro s
  have hpc : s.fetchOpcode.onFetch.pc = s.pc + 2 := by simp [BitVec.add_assoc]
  have hvec : w16 (s.fetchOpcode.onFetch.readValue (IntKind.irq.vector + 1))
      (s.fetchOpcode.onFetch.readValue IntKind.irq.vector) = vectorWord s IntKind.irq.vector :=
    (vectorWord_vector _ .irq).symm.trans (vectorWord_congr rfl .irq)
  obtain ⟨hlow, hhigh⟩ := IntKind.vector_ge .irq
  obtain ⟨hr, hkept, -, -, hmem⟩ := State.enterVector_eq s.fetchOpcode.onFetch true hlow hhigh
  simp only [hpc, packP_true, sub_two, State.onFetch_sp, State.fetchOpcode_sp, State.onFetch_flags,
    State.fetchOpcode_flags] at hmem
  have hfetch : ControlKept s s.fetchOpcode.onFetch := by simp [ControlKept, LinesKept]
  refine ⟨_, rfl, hr.trans ?registers, hfetch.trans hkept, ?memory, ?accesses⟩
  case registers =>
    exact congrArg (fun pc => { s.registers with sp := s.sp - 3, pc := pc, flags := { s.flags with i := true } }) hvec
  case memory => exact memoryAfter_of_eq (s' := s.fetchOpcode.onFetch) (by simp) (by simp) rfl rfl hmem
  case accesses =>
    rw [State.accessList_enterVector]
    rfl

/-- Settles O37: the two dummy reads leave S and memory, so the return pulls what stood above S. -/
theorem returnFromInterrupt : Obligations.ReturnFromInterrupt := by
  unfold Obligations.ReturnFromInterrupt
  intro s v hv
  obtain ⟨hr, hkept, hram, hcart, -⟩ := State.returnFromVector_eq (stackPrefix s).touchStack
  have hflags : (stackPrefix s).touchStack.readValue (stackAddr (s.sp + 1)) = v := State.readValue_of_peek hv
  have hprefix : ControlKept s (stackPrefix s).touchStack := by simp [stackPrefix, ControlKept, LinesKept]
  refine ⟨⟨_, rfl, hr.trans ?registers, hprefix.trans hkept, ?memory⟩, _, rfl, ?accesses⟩
  case registers =>
    rw [wordAt_stack (s := s) (t := (stackPrefix s).touchStack) rfl, ← hflags]
    rfl
  case memory => exact memoryKept_of_eq (hram.trans (by simp [stackPrefix])) (hcart.trans (by simp [stackPrefix]))
  case accesses =>
    rw [State.accessList_returnFromVector]
    simp [reads]

/-! Branches (R306 to R314; 41_addressing_modes.md R174). -/

theorem runsTo_of_rel {i : Instr} {d : Byte} (ho : i.operand = .rel d) (s : State) :
    RunsTo i s
      { s.registers with
        pc := if branchTaken i.mnemonic s.flags then branchTarget (s.pc + 2) d else s.pc + 2 } := by
  obtain ⟨t, ht, hr, hkept, hram, hcart, -⟩ := branchInstr_next (branchTaken i.mnemonic s.flags) d s
  exact ⟨t, (exec_of_rel ho s).trans ht, hr, hkept, memoryKept_of_eq hram hcart⟩

/-- Settles O39: each branch runs in the branch form; the condition is that of its mnemonic. -/
theorem branches : Obligations.Branches := by
  unfold Obligations.Branches
  intro i s d ho next target taken
  have htaken : taken = branchTaken i.mnemonic s.flags := by
    cases i <;> cases ho <;> simp [taken, branchTaken, Instr.mnemonic]
  have htarget : target = branchTarget next d := (branchTarget_eq_ofInt s.pc d).symm
  obtain ⟨t, ht, hacc⟩ := branchInstr_accessList taken d s
  rw [htarget]
  refine ⟨?registers, t, ?completes, hacc⟩
  case registers =>
    rw [htaken]
    exact runsTo_of_rel ho s
  case completes => rw [exec_of_rel ho, ← htaken, ht]

/-! The stack instructions (R315 to R318). -/

/-- An instruction that pushes one byte stores it, moves S and PC, and changes nothing else. -/
theorem storesTo_of_push {i : Instr} {s : State} {v : Byte} (hx : exec i s = .next ((stackPrefix s).push v)) :
    StoresTo i s { s.registers with sp := s.sp - 1, pc := s.pc + 1 } [(stackAddr s.sp, v)] :=
  ⟨_, hx, by simp [State.registers, stackPrefix], by simp [stackPrefix, ControlKept, LinesKept],
    memoryAfter_of_eq rfl rfl rfl rfl (memoryAfter_push (stackPrefix s) v)⟩

theorem pullValue_stackPrefix (s : State) : (stackPrefix s).touchStack.pullValue = s.pullValue :=
  State.pullValue_congr rfl rfl

theorem runsTo_pla (s : State) :
    RunsTo .pla s
      { s.registers with a := s.pullValue, sp := s.sp + 1, pc := s.pc + 1, flags := withNZ s.flags s.pullValue } := by
  refine runsTo_of_sameStore rfl ?_ (by simp [stackPrefix, ControlKept, LinesKept]) ((sameStore_stackPrefix s).trans {})
  rw [State.registers_setNZ, pullValue_stackPrefix]
  simp [State.registers, stackPrefix]

theorem runsTo_plp (s : State) :
    RunsTo .plp s { s.registers with sp := s.sp + 1, pc := s.pc + 1, flags := unpackP s.pullValue } := by
  refine runsTo_of_sameStore rfl ?_ (by simp [stackPrefix, ControlKept, LinesKept]) ((sameStore_stackPrefix s).trans {})
  rw [pullValue_stackPrefix]
  simp [State.registers, stackPrefix]

/-- Settles O40: the pushes by the byte they store, the pulls by the byte above S. -/
theorem stackInstructions : Obligations.StackInstructions := by
  unfold Obligations.StackInstructions
  intro s v
  refine ⟨⟨storesTo_of_push rfl, ?php, fun i hi => ?pushed⟩, fun hv => ?pulls⟩
  case php =>
    rw [State.p, ← packP_true]
    exact storesTo_of_push rfl
  case pushed =>
    simp only [List.mem_cons, List.not_mem_nil, or_false] at hi
    obtain rfl | rfl := hi <;> exact ⟨_, rfl, rfl⟩
  case pulls =>
    have hpull : s.pullValue = v := State.readValue_of_peek hv
    subst hpull
    refine ⟨runsTo_pla s, runsTo_plp s, fun i hi => ?_⟩
    simp only [List.mem_cons, List.not_mem_nil, or_false] at hi
    obtain rfl | rfl := hi <;> exact ⟨_, rfl, rfl⟩

/-! The flag instructions and NOP (R319 to R326). -/

/-- An implied instruction that writes the flags alone. -/
theorem runsTo_of_flagUpdate {i : Instr} {exe : State → State} (f : Flags → Flags)
    (he : executorOf i.mnemonic = .implied exe)
    (hf : ∀ u : State, (exe u).registers = { u.registers with flags := f u.registers.flags }) (s : State) :
    RunsTo i s { s.registers with pc := s.pc + 1, flags := f s.flags } :=
  runsTo_of_implied he fun u hu => by
    rw [hf, hu]
    rfl

/-- Settles O41: one update of the flags for each instruction. -/
theorem flagInstructions : Obligations.FlagInstructions := by
  unfold Obligations.FlagInstructions
  exact fun s =>
    ⟨⟨rfl, runsTo_of_flagUpdate (fun f => { f with c := false }) rfl (fun _ => rfl) s⟩,
      ⟨rfl, runsTo_of_flagUpdate (fun f => { f with c := true }) rfl (fun _ => rfl) s⟩,
      ⟨rfl, runsTo_of_flagUpdate (fun f => { f with i := false }) rfl (fun _ => rfl) s⟩,
      ⟨rfl, runsTo_of_flagUpdate (fun f => { f with i := true }) rfl (fun _ => rfl) s⟩,
      ⟨rfl, runsTo_of_flagUpdate (fun f => { f with v := false }) rfl (fun _ => rfl) s⟩,
      ⟨rfl, runsTo_of_flagUpdate (fun f => { f with d := false }) rfl (fun _ => rfl) s⟩,
      ⟨rfl, runsTo_of_flagUpdate (fun f => { f with d := true }) rfl (fun _ => rfl) s⟩⟩

/-- Settles O42: NOP is a Read instruction in every form, whose executor does nothing with the byte. -/
theorem nops : Obligations.Nops := by
  unfold Obligations.Nops
  exact fun i s hm => runsTo_of_read (exe := nopReadOp) (congrArg executorOf hm) fun u hu => hu

end Sys2Proof.Machine
end

section
/-! PROOFS of the family 45_undocumented, the combined instructions. The second operation uses the byte and the carry that the first
has just made (45_undocumented.md R350 to R354, R357, R358). -/

namespace Sys2Proof.Machine

open Sys2Proof.Claims

/-- What a combined instruction leaves of the registers `r` and the old byte `m`: the second operation, on the byte that the first
makes and with the carry that it moves out (R350). -/
def combined (mn : Mnemonic) (second : Registers → Byte → Registers) (r : Registers) (m : Byte) : Registers :=
  second { r with flags := { r.flags with c := shiftedOut mn r.flags.c m } } (modified mn r.flags.c m)

section
variable (m : Byte) (u : State)

theorem registers_sloOp :
    (sloOp m u).registers =
      combined .slo (fun r v => { r with a := r.a ||| v, flags := withNZ r.flags (r.a ||| v) }) u.registers m := by
  rw [sloOp, registers_oraOp, registers_rmw (mn := .asl) (by decide) rfl, value_eq_modified (mn := .slo) rfl]
  rfl

theorem registers_rlaOp :
    (rlaOp m u).registers =
      combined .rla (fun r v => { r with a := r.a &&& v, flags := withNZ r.flags (r.a &&& v) }) u.registers m := by
  rw [rlaOp, registers_andOp, registers_rmw (mn := .rol) (by decide) rfl, value_eq_modified (mn := .rla) rfl]
  rfl

theorem registers_sreOp :
    (sreOp m u).registers =
      combined .sre (fun r v => { r with a := r.a ^^^ v, flags := withNZ r.flags (r.a ^^^ v) }) u.registers m := by
  rw [sreOp, registers_eorOp, registers_rmw (mn := .lsr) (by decide) rfl, value_eq_modified (mn := .sre) rfl]
  rfl

theorem registers_rraOp : (rraOp m u).registers = combined .rra added u.registers m := by
  rw [rraOp, registers_addToA, registers_rmw (mn := .ror) (by decide) rfl, value_eq_modified (mn := .rra) rfl]
  rfl

theorem registers_dcpOp :
    (dcpOp m u).registers = combined .dcp (fun r v => { r with flags := compared r.flags r.a v }) u.registers m := by
  rw [dcpOp, compareFlags_eq_compared, sub_one_eq_ofNat]
  rfl

theorem registers_iscOp : (iscOp m u).registers = combined .isc subtracted u.registers m := by
  rw [iscOp, registers_addToA_complement, add_one_eq_ofNat]
  rfl

end

theorem mnemonic_of_acc {i : Instr} (ho : i.operand = .acc) : i.mnemonic ∈ [.asl, .lsr, .rol, .ror] := by
  cases i <;> cases ho <;> decide

/-- A combined instruction has no accumulator form, stores the byte of its first operation at its effective address, and leaves the
registers that its second operation makes. -/
theorem storesTo_of_combined {i : Instr} {mn : Mnemonic} {f : Byte → State → Byte} {exe : Byte → State → State}
    {acc : State → State} {second : Registers → Byte → Registers} (hm : i.mnemonic = mn)
    (hmn : mn ∉ [.asl, .lsr, .rol, .ror]) (he : executorOf mn = .rmw f exe acc)
    (hr : ∀ m u, (exe m u).registers = combined mn second u.registers m) (s : State) :
    ∃ m, i.operand = .mem m ∧
      StoresTo i s (combined i.mnemonic second { s.registers with pc := nextPc i s } (m.operandRmw s))
        [(m.ea s, modified i.mnemonic s.flags.c (m.operandRmw s))] := by
  subst hm
  obtain ⟨m, ho⟩ | ho := operand_rmw he
  case inl => exact ⟨m, ho, storesTo_of_rmw he ho fun u hu => by rw [hr, hu]⟩
  case inr => exact absurd (mnemonic_of_acc ho) hmn

/-- Settles O30: the second operation is that of ORA, AND, EOR or ADC. -/
theorem combinedShifts : Obligations.CombinedShifts := by
  unfold Obligations.CombinedShifts
  exact fun i s =>
    ⟨fun hm => storesTo_of_combined hm (by decide) rfl registers_sloOp s,
      fun hm => storesTo_of_combined hm (by decide) rfl registers_rlaOp s,
      fun hm => storesTo_of_combined hm (by decide) rfl registers_sreOp s,
      fun hm => storesTo_of_combined hm (by decide) rfl registers_rraOp s⟩

/-- Settles O31: the second operation is that of CMP or SBC; the first moves no bit into C. -/
theorem decrementCompareAndIncrementSubtract : Obligations.DecrementCompareAndIncrementSubtract := by
  unfold Obligations.DecrementCompareAndIncrementSubtract
  refine fun i s => ⟨fun hm => ?dcp, fun hm => ?isc⟩
  case dcp =>
    have h := storesTo_of_combined hm (by decide) rfl registers_dcpOp s
    rw [hm] at h
    exact h
  case isc =>
    have h := storesTo_of_combined hm (by decide) rfl registers_iscOp s
    rw [hm] at h
    exact h

end Sys2Proof.Machine
end

section
/-! PROOFS of the family 45_undocumented, the unstable stores and the immediate combinations. The byte and the address of an
unstable store, and the registers that each combination on an immediate byte leaves (45_undocumented.md R359 to R368, R373). -/

namespace Sys2Proof.Machine

open Sys2Proof.Claims

/-! The unstable stores (R365 to R368, R373). -/

theorem highAndValue_eq (base : Word) (r : Byte) :
    highAndValue base r = r &&& BitVec.ofNat 8 (((hi base).toNat + 1) % 256) := by
  rw [ofNat_mod_eq_ofNat, ← add_one_eq_ofNat]
  rfl

theorem registers_tasOp (u : State) : (tasOp u).registers = { u.registers with sp := u.registers.a &&& u.registers.x } := rfl

/-- An unstable store has an effective address, stores its executor's byte there or at the corrupted address, and leaves the
registers that its executor makes of those with PC at the next instruction. -/
theorem storesTo_of_highAnd {i : Instr} {r : State → Byte} {exe : State → State} {s : State} {regs : Registers}
    (he : executorOf i.mnemonic = .highAnd r exe)
    (hr : ∀ u : State, u.registers = { s.registers with pc := nextPc i s } → (exe u).registers = regs) :
    ∃ m, i.operand = .mem m ∧
      let v := r s &&& BitVec.ofNat 8 (((hi (m.base s)).toNat + 1) % 256)
      StoresTo i s regs [(if m.crossed s then w16 v (lo (m.ea s)) else m.ea s, v)] := by
  have hupdate : (executorOf i.mnemonic).Update exe := he ▸ .highAnd r exe
  obtain ⟨m, ho⟩ := operand_highAnd he
  obtain ⟨u, hu, hregs, hkept, hmem, -⟩ := highAndInstr_next m r s
  cases hu
  rw [← length_of_mem ho] at hregs
  obtain ⟨hram, hcart, -⟩ := sameStore_of_update hupdate _
  refine ⟨m, ho, ?_⟩
  rw [← hr _ hregs, ← highAndValue_eq]
  exact ⟨_, exec_highAnd ho he s, rfl, hkept.trans (controlKept_of_update hupdate _),
    memoryAfter_of_eq rfl rfl hram hcart hmem⟩

/-- Settles O22: TAS alone writes a register, S. -/
theorem unstableStores : Obligations.UnstableStores := by
  unfold Obligations.UnstableStores
  refine fun i s => ⟨fun hm => ?sha, fun hm => ?shx, fun hm => ?shy, fun hm => ?tas⟩
  case sha => exact storesTo_of_highAnd (r := shaRegister) (congrArg executorOf hm) fun u hu => hu
  case shx => exact storesTo_of_highAnd (r := shxRegister) (congrArg executorOf hm) fun u hu => hu
  case shy => exact storesTo_of_highAnd (r := shyRegister) (congrArg executorOf hm) fun u hu => hu
  case tas =>
    refine storesTo_of_highAnd (r := tasRegister) (congrArg executorOf hm) fun u hu => ?_
    rw [registers_tasOp, hu]
    rfl

/-! The immediate combinations (R359 to R364). -/

/-- Every immediate row of the opcode table has 2 cycles, and no cycle is added to them. -/
theorem instrCycles_of_imm {i : Instr} {d : Byte} (ho : i.operand = .imm d) (s : State) : instrCycles i s = 2 := by
  cases i with
  | anc k d => match k with | 0 | 1 => dsimp only [instrCycles, Instr.opcode]; rfl
  | nopImm k d => match k with | 0 | 1 | 2 | 3 | 4 => dsimp only [instrCycles, Instr.opcode]; rfl
  | _ => cases ho <;> (dsimp only [instrCycles, Instr.opcode]; rfl)

/-- LSR clears N and moves bit 0 out into C. -/
theorem lsrFlags_eq_clear (f : Flags) (m : Byte) :
    lsrFlags f m = { withNZ f (BitVec.ofNat 8 (m.toNat / 2)) with n := false, c := m.getLsbD 0 } := by
  rw [← lsrResult_eq, ← lsrFlags_n f m, ← Flags.setNZ_eq_withNZ]
  rfl

section
variable (m : Byte) (u : State)

theorem registers_ancOp :
    (ancOp m u).registers =
      { u.registers with
        a := u.registers.a &&& m
        flags := { withNZ u.registers.flags (u.registers.a &&& m) with c := (u.registers.a &&& m).getLsbD 7 } } := by
  rw [← Flags.setNZ_eq_withNZ]
  rfl

theorem registers_alrOp :
    (alrOp m u).registers =
      { u.registers with
        a := BitVec.ofNat 8 ((u.registers.a &&& m).toNat / 2)
        flags :=
          { withNZ u.registers.flags (BitVec.ofNat 8 ((u.registers.a &&& m).toNat / 2)) with
            n := false, c := (u.registers.a &&& m).getLsbD 0 } } := by
  rw [← lsrFlags_eq_clear, ← lsrResult_eq]
  rfl

theorem registers_arrOp :
    (arrOp m u).registers =
      let r := BitVec.ofNat 8 ((u.registers.a &&& m).toNat / 2 + 128 * u.registers.flags.c.toNat)
      { u.registers with
        a := r, flags := { withNZ u.registers.flags r with c := r.getLsbD 6, v := r.getLsbD 6 ^^ r.getLsbD 5 } } := by
  simp only [← rorResult_eq, ← Flags.setNZ_eq_withNZ]
  rfl

theorem registers_sbxOp :
    (sbxOp m u).registers =
      { u.registers with
        x := BitVec.ofNat 8 (256 + (u.registers.a &&& u.registers.x).toNat - m.toNat)
        flags := compared u.registers.flags (u.registers.a &&& u.registers.x) m } := by
  rw [← compareFlags_eq_compared, ← sub_eq_ofNat]
  rfl

theorem registers_aneOp :
    (aneOp m u).registers =
      { u.registers with
        a := aneResult Config.magic u.registers.a u.registers.x m
        flags := withNZ u.registers.flags (aneResult Config.magic u.registers.a u.registers.x m) } :=
  State.registers_setNZ { u with a := aneResult Config.magic u.a u.x m } (aneResult Config.magic u.a u.x m)

theorem registers_lxaOp :
    (lxaOp m u).registers =
      { u.registers with
        a := lxaResult Config.magic u.registers.a m, x := lxaResult Config.magic u.registers.a m
        flags := withNZ u.registers.flags (lxaResult Config.magic u.registers.a m) } :=
  State.registers_setNZ { u with a := lxaResult Config.magic u.a m, x := lxaResult Config.magic u.a m }
    (lxaResult Config.magic u.a m)

end

/-- Settles O32: each is a Read instruction on its immediate byte; ANC has two opcode bytes. -/
theorem immediateCombinations : Obligations.ImmediateCombinations := by
  unfold Obligations.ImmediateCombinations
  intro s m
  refine ⟨fun k => ⟨?ancBytes, instrCycles_of_imm rfl s, ?anc⟩, ⟨rfl, instrCycles_of_imm rfl s, ?alr⟩,
    ⟨rfl, instrCycles_of_imm rfl s, ?arr⟩, ⟨rfl, instrCycles_of_imm rfl s, ?sbx⟩⟩
  case ancBytes => exact match k with | 0 => .inl rfl | 1 => .inr rfl
  all_goals refine runsTo_of_read rfl fun u hu => ?_
  case anc => rw [registers_ancOp, hu]; rfl
  case alr => rw [registers_alrOp, hu]; rfl
  case arr => rw [registers_arrOp, hu]; rfl
  case sbx => rw [registers_sbxOp, hu]; rfl

/-- Settles O33: each is a Read instruction on its immediate byte, and a bit of the result is made of that bit of the operands. -/
theorem unstableImmediates : Obligations.UnstableImmediates := by
  unfold Obligations.UnstableImmediates
  refine ⟨fun s m => ⟨runsTo_of_read rfl fun u hu => ?ane, runsTo_of_read rfl fun u hu => ?lxa⟩,
    fun magic a x m k => ⟨?aneBit, ?lxaBit⟩⟩
  case ane => rw [registers_aneOp, hu]; rfl
  case lxa => rw [registers_lxaOp, hu]; rfl
  case aneBit => rw [aneResult, BitVec.getLsbD_and, BitVec.getLsbD_and, BitVec.getLsbD_or]
  case lxaBit => rw [lxaResult, BitVec.getLsbD_and, BitVec.getLsbD_or]

end Sys2Proof.Machine
end

section
/-! PROOFS of the family 45_undocumented, the halt state. JAM alone changes it (45_undocumented.md R372; 60_exceptions.md R420, R422). -/

namespace Sys2Proof.Machine

open Sys2Proof.Claims

/-- JAM makes its opcode fetch and halts; it changes nothing else but PC. -/
theorem exec_jam_next (k : Fin 12) (s : State) :
    ∃ t, exec (.jam k) s = .next t ∧ t.registers = { s.registers with pc := s.pc + 1 } ∧ LinesKept s t ∧ MemoryKept s t ∧
      t.halted = .jam (Instr.opcode (.jam k)) ∧ t.cycles = s.cycles + 1 ∧ t.accessList = reads [s.pc] :=
  ⟨_, rfl, rfl, ⟨rfl, rfl, rfl, rfl⟩, memoryKept_of_eq rfl rfl, rfl, rfl, rfl⟩

/-- No instruction but JAM changes a line, the halt state or the instruction-cycle state that stands at its end. -/
theorem controlKept_of_exec {i : Instr} {s t : State} (hm : i.mnemonic ≠ .jam) (h : exec i s = .next t) : ControlKept s t := by
  have hnext {u : State} (hx : exec i s = .next u) (hu : ControlKept s u) : ControlKept s t := by
    cases h.symm.trans hx
    exact hu
  have hupdate {exe : State → State} (he : (executorOf i.mnemonic).Update exe) {u : State} (hx : exec i s = .next (exe u))
      (hu : ControlKept s u) : ControlKept s t := hnext hx (hu.trans (controlKept_of_update he u))
  cases hasForm i with
  | readMem _ _ he | readImm _ _ he | nopImp he =>
    obtain ⟨u, hu, -, hkept, -⟩ := exec_read_next he s
    exact hupdate (he ▸ .read _ _) hu hkept
  | write m v he hl hx =>
    obtain ⟨u, hu, -, hkept, -⟩ := writeInstr_next m v s
    exact hnext ((hx s).trans hu) hkept
  | highAnd m r exe he hl hx =>
    obtain ⟨u, hu, -, hkept, -⟩ := highAndInstr_next m r s
    cases hu
    exact hupdate (he ▸ .highAnd r exe) (hx s) hkept
  | rmwMem m f exe acc he hl hx =>
    obtain ⟨u, hu, -, hkept, -⟩ := rmwInstr_next m f exe s
    exact hupdate (he ▸ .rmw f exe acc _) ((hx s).trans hu) hkept
  | rmwAcc f exe acc he hl hx =>
    obtain ⟨u, hu, -, hkept, -⟩ := impInstr_next acc s
    exact hupdate (he ▸ .acc f exe acc) ((hx s).trans hu) hkept
  | implied exe he hl hx =>
    obtain ⟨u, hu, -, hkept, -⟩ := impInstr_next exe s
    exact hupdate (he ▸ .implied exe) ((hx s).trans hu) hkept
  | branch taken d he hl hx =>
    obtain ⟨u, hu, -, hkept, -⟩ := branchInstr_next (taken s) d s
    exact hnext ((hx s).trans hu) hkept
  | jam => exact absurd rfl hm
  | brk =>
    cases h
    simp [ControlKept, LinesKept, State.enterVector]
  | rti =>
    cases h
    simp [ControlKept, LinesKept, State.returnFromVector]
  | rts | jsr | jmpAbs | jmpInd | pha | php | pla | plp =>
    cases h
    simp [ControlKept, LinesKept, stackPrefix]

/-- Settles O43: JAM by its own sequence; the other instructions and the interrupt sequences keep the halt state. -/
theorem jamHalts : Obligations.JamHalts := by
  unfold Obligations.JamHalts
  refine ⟨fun s k => exec_jam_next k s, fun i s t h hne => ?others, fun s k => ?sequences⟩
  case others =>
    refine Decidable.byContradiction fun hm => ?_
    obtain ⟨-, hhalted⟩ := controlKept_of_exec hm h
    exact hne hhalted
  case sequences =>
    obtain ⟨-, ⟨-, hhalted⟩, -⟩ := s.interruptSequence_eq k
    exact hhalted

end Sys2Proof.Machine
end

section
/-! PROOFS of the family 60_exceptions, the stops. A running machine has no failure, and a halted one answers nothing else
(60_exceptions.md R420, R424). -/

namespace Sys2Proof.Machine

/-- From a boundary of a running machine there is a next state: every instruction completes, and so does a sequence. -/
theorem fromBoundary_next (s : State) : ∃ t, fromBoundary s = .next t := by
  unfold fromBoundary runInstruction
  split
  · exact ⟨_, rfl⟩
  · split
    case h_1 i _ _ =>
      obtain ⟨t, ht, -⟩ := exec_next_leaves i s
      exact ⟨t, ht⟩
    case h_2 => exact ⟨_, rfl⟩

/-- Settles O8: an instruction in progress is ticked to its end, and a tick of a running machine always answers a next state. -/
theorem runningMachineNeverFaults : Obligations.RunningMachineNeverFaults := by
  unfold Obligations.RunningMachineNeverFaults
  intro s hrun
  have hstep : step s = transition s := by rw [step, hrun, haltFault]
  have htick : tick s = .next (runningTick s) := by rw [tick, hrun, haltFault]
  refine ⟨?_, _, htick⟩
  rw [hstep, transition]
  cases s.ic.opstate with
  | fetch => exact fromBoundary_next s
  | decode | execute => exact ⟨_, rfl⟩

theorem step_and_tick_of_haltFault {s : State} {f : Fault} (h : haltFault s.halted = some f) :
    step s = .fault f ∧ tick s = .fault f := by
  rw [step, tick, h]
  exact ⟨rfl, rfl⟩

/-- The environment cannot touch the halt state or the cycle counter. -/
theorem State.envEvent_halted_cycles (s : State) (e : EnvEvent) :
    (s.envEvent e).halted = s.halted ∧ (s.envEvent e).cycles = s.cycles := by
  cases e <;> exact ⟨rfl, rfl⟩

/-- Settles O44: the failure is that of the halt state, which an event of the environment leaves. -/
theorem haltedIsAbsorbing : Obligations.HaltedIsAbsorbing := by
  unfold Obligations.HaltedIsAbsorbing
  intro s op e
  obtain ⟨hhalted, hcycles⟩ := s.envEvent_halted_cycles e
  have hstop {f : Fault} (h : haltFault s.halted = some f) :
      step s = .fault f ∧ tick s = .fault f ∧ step (s.envEvent e) = .fault f := by
    have h' : haltFault (s.envEvent e).halted = some f := (congrArg haltFault hhalted).trans h
    obtain ⟨hstep, htick⟩ := step_and_tick_of_haltFault h
    obtain ⟨hstep', -⟩ := step_and_tick_of_haltFault h'
    exact ⟨hstep, htick, hstep'⟩
  exact ⟨fun h => hstop (congrArg haltFault h), fun h => hstop (congrArg haltFault h), hhalted, hcycles⟩

end Sys2Proof.Machine
end

section
/-! PROOFS of the family 60_exceptions, the interrupt sequences. What a sequence leaves, how RTI undoes it, which request the arbiter
takes, and what becomes of the others (60_exceptions.md R401 to R413). -/

namespace Sys2Proof.Machine

open Sys2Proof.Claims

/-! The sequence and the return from it (R407 to R413). -/

/-- Settles O46: the two dummy reads leave everything but the access sequence, so the sequence is the exception entry. -/
theorem interruptSequence : Obligations.InterruptSequence := by
  unfold Obligations.InterruptSequence
  intro s k vec t
  have hvec : vec = k.vector := by cases k <;> rfl
  have hpushed : (s.p ||| 0x20#8) &&& 0xEF#8 = packP s.flags false := by rw [← packP_unpackP, State.p, unpackP_packP]
  obtain ⟨hr, hkept, -, hcycles, hmem⟩ := s.interruptSequence_eq k
  rw [sub_two] at hmem
  rw [hvec, hpushed, vectorWord_vector]
  refine ⟨hr, hkept, hcycles, hmem, ?accesses⟩
  exact State.accessList_enterVector ((s.beginSequence.onRead s.pc).onRead s.pc) false k.vector

/-- RTI undoes an exception entry that pushed the address `pc` and a status byte that unpacks to the flags. -/
theorem exec_rti_of_entry {s t : State} {vec pc : Word} {f : Flags} {v : Byte}
    (hr : t.registers = { s.registers with sp := s.sp - 3, pc := vec, flags := f })
    (hmem : MemoryAfter s t [(stackAddr s.sp, hi pc), (stackAddr (s.sp - 1), lo pc), (stackAddr (s.sp - 2), v)])
    (hv : unpackP v = s.flags) :
    ∃ u, exec .rti t = .next u ∧ u.registers = { s.registers with pc := pc } ∧ MemoryKept t u := by
  obtain ⟨-, hstored⟩ := hmem
  simp only [List.forall_mem_cons] at hstored
  obtain ⟨hhi, hlo, hp, -⟩ := hstored
  have hsp : t.sp = s.sp - 3 := congrArg Registers.sp hr
  have hsp1 : t.sp + 1 = s.sp - 2 := by bv_omega
  have hsp2 : t.sp + 2 = s.sp - 1 := by bv_omega
  have hsp3 : t.sp + 3 = s.sp := by bv_omega
  obtain ⟨⟨u, hu, hur, -, hkept⟩, -⟩ := returnFromInterrupt t v (hsp1 ▸ hp.peek_stack)
  refine ⟨u, hu, ?_, hkept⟩
  rw [hur, hr, hsp2, hsp3, wordAt, hhi.peek_stack, hlo.peek_stack, Option.getD_some, Option.getD_some, w16_hi_lo]
  exact congrArg (fun f => { s.registers with pc := pc, flags := f }) hv

/-- Settles O38: the entries differ in the address and in bit 4 of the status byte, which RTI discards. -/
theorem returnUndoesEntry : Obligations.ReturnUndoesEntry := by
  unfold Obligations.ReturnUndoesEntry
  refine fun s => ⟨fun k => ?sequence, ?brk⟩
  case sequence =>
    obtain ⟨hr, -, -, hmem, -⟩ := interruptSequence s k
    exact exec_rti_of_entry hr hmem (by rw [← packP_unpackP, unpackP_packP, State.p, unpackP_packP])
  case brk =>
    obtain ⟨t, ht, hr, -, hmem, -⟩ := breakTakesException s
    obtain ⟨u, hu⟩ := exec_rti_of_entry hr hmem (by rw [State.p, ← packP_true, unpackP_packP])
    exact ⟨t, u, ht, hu⟩

/-! The arbiter (R404, R406). -/

theorem atFetch_of_controlKept {s t : State} (hs : AtFetch s) (h : ControlKept s t) : AtFetch t := by
  obtain ⟨hrun, hfetch⟩ := hs
  obtain ⟨⟨-, -, -, hic⟩, hhalted⟩ := h
  exact ⟨hhalted.trans hrun, (congrArg ICycle.opstate hic).trans hfetch⟩

/-- RESET is taken where no NMI is pending and the IRQ line is 0 or masked. -/
theorem step_of_reset {s : State} (hs : AtFetch s) (hn : s.nmiPending = false) (hq : s.irqLine = false ∨ s.flags.i = true)
    (hr : s.resetPending = true) :
    step s = .next (State.interruptSequence { s with resetPending := false } .reset) :=
  step_of_interrupt (k := .reset) hs (arbitrate_of_reset hn hq hr)

/-- A sequence masks the IRQ line, so a RESET that lost to it is taken at the next fetch if no NMI is pending. -/
theorem step_of_lost_reset {s : State} {k : IntKind} (hs : AtFetch s) (hn : s.nmiPending = false) (hr : s.resetPending = true) :
    step (s.interruptSequence k) =
      .next (State.interruptSequence { s.interruptSequence k with resetPending := false } .reset) := by
  have hmasked : (s.interruptSequence k).flags.i = true := flags_i_of_enters (.inr ⟨k, rfl⟩)
  obtain ⟨-, hkept, -⟩ := s.interruptSequence_eq k
  have hfetch := atFetch_of_controlKept hs hkept
  obtain ⟨⟨hn', -, hr', -⟩, -⟩ := hkept
  exact step_of_reset hfetch (hn'.trans hn) (.inr hmasked) (hr'.trans hr)

/-- Settles O45: each clause is the sequence that the arbiter selects, from the state with the winner's latch cleared. -/
theorem arbiter : Obligations.Arbiter := by
  unfold Obligations.Arbiter
  refine fun s hs => ⟨?nmi, ?irq, ?reset, fun hq => ⟨arbitrate_of_quiet hq, step_of_quiet hs hq⟩⟩
  case nmi =>
    intro hn
    have hs' : AtFetch (s.consume .nmi) := hs
    obtain ⟨-, hkept, -, hcycles, -⟩ := (s.consume .nmi).interruptSequence_eq .nmi
    have hfetch := atFetch_of_controlKept hs' hkept
    obtain ⟨⟨hn', hq', hr', -⟩, -⟩ := hkept
    refine ⟨_, step_of_interrupt hs (arbitrate_of_nmi hn), rfl, hn', hq', hr', hcycles, hfetch,
      fun hr => step_of_lost_reset hs' rfl hr, fun hr => ?_⟩
    exact arbitrate_of_quiet ⟨hn', .inr (flags_i_of_enters (.inr ⟨_, rfl⟩)), hr'.trans hr⟩
  case irq =>
    rintro ⟨hn, hq, hi⟩
    obtain ⟨-, hkept, -, hcycles, -⟩ := s.interruptSequence_eq .irq
    have hfetch := atFetch_of_controlKept hs hkept
    obtain ⟨⟨hn', hq', hr', -⟩, -⟩ := hkept
    exact ⟨_, step_of_interrupt hs (arbitrate_of_irq hn hq hi), rfl, hq'.trans hq, hn'.trans hn, hr', hcycles, hfetch,
      fun hr => step_of_lost_reset hs hn hr⟩
  case reset =>
    rintro ⟨hn, hq, hr⟩
    obtain ⟨-, ⟨⟨-, hq', hr', -⟩, -⟩, -, hcycles, -⟩ := (s.consume .reset).interruptSequence_eq .reset
    exact ⟨_, step_of_reset hs hn hq hr, rfl, hr', hq', hcycles⟩

/-- The arbiter selects NMI or RESET only where its latch is set. -/
theorem pending_of_arbitrate {s : State} {k : IntKind} (h : s.arbitrate = some k) :
    (k = .nmi → s.nmiPending = true) ∧ (k = .reset → s.resetPending = true) := by
  unfold State.arbitrate at h
  split at h
  case isTrue hn =>
    cases h
    exact ⟨fun _ => hn, nofun⟩
  case isFalse =>
    split at h
    case isTrue =>
      cases h
      exact ⟨nofun, nofun⟩
    case isFalse =>
      obtain ⟨hr, rfl⟩ : s.resetPending = true ∧ IntKind.reset = k := by simpa using h
      exact ⟨nofun, fun _ => hr⟩

theorem linesKept_of_exec {i : Instr} {s t : State} (h : exec i s = .next t) : LinesKept s t := by
  by_cases hm : i.mnemonic = .jam
  · cases i <;> cases hm
    cases h
    exact ⟨rfl, rfl, rfl, rfl⟩
  · obtain ⟨hlines, -⟩ := controlKept_of_exec hm h
    exact hlines

/-- What a step from a boundary can do to the lines, said once: it takes the interrupt that the arbiter selects, or keeps them. -/
theorem step_interrupt_or_linesKept {s t : State} (hs : AtFetch s) (h : step s = .next t) :
    (∃ k, s.arbitrate = some k ∧ t = (s.consume k).interruptSequence k) ∨ LinesKept s t := by
  cases hk : s.arbitrate with
  | some k =>
    cases (step_of_interrupt hs hk).symm.trans h
    exact .inl ⟨k, rfl, rfl⟩
  | none =>
    rw [step_of_atFetch hs, fromBoundary, hk] at h
    simp only [runInstruction] at h
    split at h
    · exact .inr (linesKept_of_exec h)
    · cases h
      exact .inr ⟨rfl, rfl, rfl, rfl⟩

/-- Taking an interrupt leaves PC at its handler and takes 7 cycles. -/
theorem interruptSequence_consume_pc_cycles (s : State) (k : IntKind) :
    ((s.consume k).interruptSequence k).pc = vectorWord s k.vector ∧
      ((s.consume k).interruptSequence k).cycles = s.cycles + 7 := by
  obtain ⟨hr, -, -, hcycles, -⟩ := (s.consume k).interruptSequence_eq k
  rw [← vectorWord_congr (s.consume_cart k), vectorWord_vector]
  exact ⟨congrArg Registers.pc hr, hcycles.trans (by cases k <;> rfl)⟩

/-- Settles O53: the sequence of the interrupt taken keeps the lines as the arbiter left them, with that one latch cleared. -/
theorem linesAreConsumedOnlyAtFetch : Obligations.LinesAreConsumedOnlyAtFetch := by
  unfold Obligations.LinesAreConsumedOnlyAtFetch
  refine ⟨fun i s t h => linesKept_of_exec h, fun s t hs h => ?step,
    fun s => ⟨rfl, rfl, rfl, rfl, rfl, rfl⟩⟩
  obtain ⟨k, hk, rfl⟩ | ⟨hn, hq, hr, -⟩ := step_interrupt_or_linesKept hs h
  case inr => exact ⟨hq, .inl hn, .inl hr⟩
  case inl =>
    obtain ⟨-, ⟨⟨hn, hq, hr, -⟩, -⟩, -⟩ := (s.consume k).interruptSequence_eq k
    have htaken := interruptSequence_consume_pc_cycles s k
    obtain ⟨hnmi, hreset⟩ := pending_of_arbitrate hk
    cases k with
    | nmi => exact ⟨hq, .inr ⟨hnmi rfl, hn, htaken⟩, .inl hr⟩
    | irq => exact ⟨hq, .inl hn, .inl hr⟩
    | reset => exact ⟨hq, .inl hn, .inr ⟨hreset rfl, hr, htaken⟩⟩

end Sys2Proof.Machine
end

section
/-! PROOFS of the family 60_exceptions, the configuration. The checks on a cartridge image in plain arithmetic, and the cartridge made
of an image that passes them (60_exceptions.md R421; 20_memory.md R71, R75, R76). -/

namespace Sys2Proof

theorem isPowerOfTwo_iff (n : Nat) : isPowerOfTwo n = true ↔ ∃ k, n = 2 ^ k := by
  simp only [isPowerOfTwo, Bool.and_eq_true, bne_iff_ne, beq_iff_eq]
  constructor
  · rintro ⟨-, h⟩
    exact ⟨n.log2, h.symm⟩
  · rintro ⟨k, rfl⟩
    exact ⟨Nat.ne_of_gt (Nat.two_pow_pos k), by rw [Nat.log2_two_pow]⟩

theorem two_pow_log2 {n : Nat} (h : ∃ k, n = 2 ^ k) : 2 ^ n.log2 = n := by
  obtain ⟨k, rfl⟩ := h
  rw [Nat.log2_two_pow]

theorem CartridgeImage.mapperOk_iff (c : CartridgeImage) : c.mapperOk = true ↔ c.mapperId = 0 := by
  unfold CartridgeImage.mapperOk MapperKind.ofId
  split
  case h_1 h => simp [h]
  case h_2 h => simp [h]
  case h_3 h _ => simpa using h

theorem CartridgeImage.prgRamOk_iff (c : CartridgeImage) :
    c.prgRamOk = true ↔ c.prgRamSize = 0 ∨ ∃ k, c.prgRamSize = 2 ^ k ∧ c.prgRamSize ≤ 0x2000 := by
  simp [CartridgeImage.prgRamOk, isPowerOfTwo_iff]

theorem CartridgeImage.chrOk_iff (c : CartridgeImage) :
    c.chrOk = true ↔ c.chr.length = 0 ∨ ∃ k, c.chr.length = 2 ^ k := by
  simp [CartridgeImage.chrOk, isPowerOfTwo_iff]

/-- A well-formed image in plain arithmetic (20_memory.md R71, R75). -/
theorem CartridgeImage.wellFormed_iff (c : CartridgeImage) :
    c.wellFormed = true ↔
      c.mapperId = 0 ∧ (∃ k, c.prgRom.length = 2 ^ k) ∧ (c.prgRamSize = 0 ∨ ∃ k, c.prgRamSize = 2 ^ k ∧ c.prgRamSize ≤ 0x2000) ∧
        (c.chr.length = 0 ∨ ∃ k, c.chr.length = 2 ^ k) := by
  rw [CartridgeImage.wellFormed, Bool.and_eq_true, Bool.and_eq_true, Bool.and_eq_true, c.mapperOk_iff,
    CartridgeImage.prgRomOk, isPowerOfTwo_iff, c.prgRamOk_iff, c.chrOk_iff, and_assoc, and_assoc]

end Sys2Proof

namespace Sys2Proof.Machine

/-- The exponent of a size that is 0 or a power of two gives the size back. -/
theorem sizeOfLog2_log2OfSize {n : Nat} (h : n = 0 ∨ ∃ k, n = 2 ^ k) : sizeOfLog2 (log2OfSize n) = n := by
  by_cases hn : n = 0
  · simp [log2OfSize, sizeOfLog2, hn]
  · simp [log2OfSize, sizeOfLog2, hn, two_pow_log2 (h.resolve_left hn)]

/-- An image has no configuration error exactly if it is well-formed: check by check, in their order. -/
theorem configError_eq_none_iff (c : CartridgeImage) : configError c = none ↔ c.wellFormed = true := by
  unfold configError CartridgeImage.wellFormed
  split
  case isFalse hm => split <;> simp [hm]
  case isTrue hm =>
    split
    case isFalse hrom => simp [hrom]
    case isTrue hrom =>
      split
      case isFalse hram => simp [hram]
      case isTrue hram => simp [hm, hrom, hram]

/-- A well-formed image makes a cartridge of its sizes and its bytes. -/
theorem loadCartridge_of_wellFormed {c : CartridgeImage} (h : c.wellFormed = true) (prgRam : Memory) :
    ∃ k, loadCartridge c prgRam = .ok k ∧
      k.prgRomSize = c.prgRom.length ∧ k.prgRamSize = c.prgRamSize ∧ k.chrSize = c.chr.length ∧
      (∀ j, k.prgRom.read j = c.prgRom.getD j 0x00#8) ∧ ∀ j, k.chr.read j = c.chr.getD j 0x00#8 := by
  obtain ⟨-, hrom, hram, hchr⟩ := c.wellFormed_iff.1 h
  have hram' : c.prgRamSize = 0 ∨ ∃ k, c.prgRamSize = 2 ^ k := hram.imp_right fun ⟨k, hk, _⟩ => ⟨k, hk⟩
  rw [loadCartridge, (configError_eq_none_iff c).2 h]
  exact ⟨_, rfl, two_pow_log2 hrom, sizeOfLog2_log2OfSize hram', sizeOfLog2_log2OfSize hchr,
    Memory.read_ofBytes c.prgRom, Memory.read_ofBytes c.chr⟩

theorem loadCartridge_of_not_wellFormed {c : CartridgeImage} (h : ¬ c.wellFormed = true) (prgRam : Memory) :
    ∃ e, loadCartridge c prgRam = .error e := by
  rw [← configError_eq_none_iff] at h
  obtain ⟨e, he⟩ := Option.ne_none_iff_exists'.1 h
  exact ⟨e, by rw [loadCartridge, he]⟩

/-- Settles O59: power-on answers the state of the cartridge that the image makes, and the image makes one exactly if it is
well-formed. -/
theorem configurationIsChecked : Obligations.ConfigurationIsChecked := by
  unfold Obligations.ConfigurationIsChecked
  intro p c
  rw [← c.wellFormed_iff]
  by_cases hwf : c.wellFormed = true
  case pos =>
    obtain ⟨k, hk, hrom, hram, hchr, hromBytes, hchrBytes⟩ := loadCartridge_of_wellFormed hwf p.prgRam
    have hok : powerOn p c = .ok (State.powerOn p k) := by rw [powerOn, hk]
    refine ⟨⟨fun _ => hwf, fun _ => ⟨_, hok⟩⟩, .inr ⟨_, hok⟩, fun s hs => ?_⟩
    cases hok.symm.trans hs
    exact ⟨hrom, hram, hchr, hromBytes, hchrBytes, rfl, rfl, rfl, rfl⟩
  case neg =>
    obtain ⟨e, he⟩ := loadCartridge_of_not_wellFormed hwf p.prgRam
    have herror : powerOn p c = .error e := by rw [powerOn, he]
    have hnone {s : State} (hs : powerOn p c = .ok s) : False := nomatch herror.symm.trans hs
    exact ⟨⟨fun ⟨_, hs⟩ => (hnone hs).elim, fun h => absurd h hwf⟩, .inl ⟨e, herror⟩, fun _ hs => (hnone hs).elim⟩

end Sys2Proof.Machine
end

section
/-! PROOFS of the family 70_reset_and_hazards. RESET is the shared interrupt sequence from the state with its latch cleared: it has
no further effect (70_reset_and_hazards.md R441, R445). -/

namespace Sys2Proof.Machine

open Sys2Proof.Claims

/-- Settles O47: the sequence's effect on the state with the latch cleared, which has the cartridge, memory and PC of the state
before it. -/
theorem resetTaken : Obligations.ResetTaken := by
  unfold Obligations.ResetTaken
  intro s hs hn hq hr
  obtain ⟨hregs, hkept, hcart, hcycles, hmem⟩ := (s.consume .reset).interruptSequence_eq .reset
  have hs' : AtFetch (s.consume .reset) := hs
  have hfetch := atFetch_of_controlKept hs' hkept
  obtain ⟨⟨hn', hq', hr', -⟩, -⟩ := hkept
  have hvec : 0xFFFC#16 = IntKind.reset.vector := rfl
  rw [sub_two] at hmem
  rw [hvec, vectorWord_vector]
  exact ⟨_, step_of_reset hs hn hq hr, hregs, hr', hn'.trans hn, hq', hfetch, hcycles, hcart, hmem⟩

end Sys2Proof.Machine
end

section
/-! PROOFS of the family 40_instruction_cycle, the counts. The opcode table's row of each instruction, the cycles of each form, and
one access for each of them (40_instruction_cycle.md R148, R151; 30_encoding.md R114). -/

namespace Sys2Proof.Machine

open Sys2Proof.Claims

/-! The bytes that a step fetches (20_memory.md R87). -/

/-- Memory is as before after the fetch of a byte, so three bytes of memory in a row are those that three fetches read. -/
theorem fetchBytes_of_peek {s : State} {b0 b1 b2 : Byte} (h0 : s.peek s.pc = some b0) (h1 : s.peek (s.pc + 1) = some b1)
    (h2 : s.peek (s.pc + 2) = some b2) : s.fetchBytes = [b0, b1, b2] := by
  have hpc : s.onFetch.onFetch.pc = s.pc + 2 := by simp [BitVec.add_assoc]
  have hr0 : s.readValue s.pc = b0 := State.readValue_of_peek h0
  have hr1 : s.onFetch.readValue s.onFetch.pc = b1 := State.readValue_of_peek (by simpa using h1)
  have hr2 : s.onFetch.onFetch.readValue s.onFetch.onFetch.pc = b2 := State.readValue_of_peek (by rwa [hpc])
  simp only [State.fetchBytes, hr0, hr1, hr2]

theorem runInstruction_of_decode {s : State} {i : Instr} {rest : List Byte} (h : decode s.fetchBytes = .ok (i, rest)) :
    runInstruction s = exec i s := by
  simp only [runInstruction, h]

/-- Settles O6: with quiet lines a step is the ordinary instruction that the decoder answers. -/
theorem stepRunsDecodedInstruction : Obligations.StepRunsDecodedInstruction := by
  unfold Obligations.StepRunsDecodedInstruction
  intro s hs hquiet
  refine ⟨fun i rest h => ?_, fun b0 b1 b2 => fetchBytes_of_peek⟩
  rw [step_of_quiet hs hquiet, runInstruction_of_decode h]

/-! The opcode table (30_encoding.md R114, R115). -/

/-- The base cycles of an instruction with this executor and this operand: one for each access that it always makes; none for JAM,
which never completes (R119). -/
def Executor.baseCycles (e : Executor) (o : Operand) : Nat :=
  match e, o with
  | .read _, .mem m => m.addressCycles + 1
  | .write _, .mem m | .highAnd _ _, .mem m => m.addressCycles + (if m.indexesWord then 1 else 0) + 1
  | .rmw _ _ _, .mem m => m.addressCycles + (if m.indexesWord then 1 else 0) + 3
  | .jmp, .ind _ => 5
  | .jmp, _ | .pha, _ | .php, _ => 3
  | .pla, _ | .plp, _ => 4
  | .jsr, _ | .rts, _ | .rti, _ => 6
  | .brk, _ => 7
  | .jam, _ => 0
  | _, _ => 2

/-- The instructions that pay a cycle more when the index addition crosses a page: the word-indexed Read instructions (R175). -/
def Executor.paysPageCross (e : Executor) (o : Operand) : Bool :=
  match e, o with
  | .read _, .mem m => m.indexesWord
  | _, _ => false

/-- The opcode table's row of an instruction: its mnemonic and mode, and the cycles and page-cross mark of executor and operand. -/
theorem opcodeRow_opcode (i : Instr) :
    (opcodeRow i.opcode).map (fun row => (row.mnemonic, row.mode, row.cycles, row.pageCross)) =
      some (i.mnemonic, i.operand.mode, (executorOf i.mnemonic).baseCycles i.operand,
        (executorOf i.mnemonic).paysPageCross i.operand) := by
  cases i with
  | jam k => match k with | 0 | 1 | 2 | 3 | 4 | 5 | 6 | 7 | 8 | 9 | 10 | 11 => dsimp only [Instr.opcode]; rfl
  | anc k d => match k with | 0 | 1 => dsimp only [Instr.opcode]; rfl
  | nopZp k z => match k with | 0 | 1 | 2 => dsimp only [Instr.opcode]; rfl
  | nopZpx k z | nopAbx k a | nopImp k => match k with | 0 | 1 | 2 | 3 | 4 | 5 => dsimp only [Instr.opcode]; rfl
  | nopImm k d => match k with | 0 | 1 | 2 | 3 | 4 => dsimp only [Instr.opcode]; rfl
  | _ => dsimp only [Instr.opcode]; rfl

/-! The operand of each form: what HasForm does not say. -/

/-- The instructions with a sequence of accesses of their own (R144, C7). -/
inductive OwnSequence : Instr → Prop
  | brk : OwnSequence .brk
  | rti : OwnSequence .rti
  | rts : OwnSequence .rts
  | pha : OwnSequence .pha
  | php : OwnSequence .php
  | pla : OwnSequence .pla
  | plp : OwnSequence .plp
  | jsr (a : Word) : OwnSequence (.jsr a)
  | jmpAbs (a : Word) : OwnSequence (.jmpAbs a)
  | jmpInd (p : Word) : OwnSequence (.jmpInd p)
  | jam (k : Fin 12) : OwnSequence (.jam k)

theorem ownSequence_of_executorOf {i : Instr} (h : (executorOf i.mnemonic).ownSequence = true) : OwnSequence i := by
  cases i <;> cases h <;> constructor

/-- The executor and the operand of an instruction, in each of the forms that exec has. -/
inductive HasOperand : Instr → Prop
  | own {i : Instr} (h : OwnSequence i) : HasOperand i
  | readMem {i : Instr} (m : MemMode) (exe : Byte → State → State) (ho : i.operand = .mem m)
      (he : executorOf i.mnemonic = .read exe) : HasOperand i
  | readImm {i : Instr} (d : Byte) (exe : Byte → State → State) (ho : i.operand = .imm d)
      (he : executorOf i.mnemonic = .read exe) : HasOperand i
  | nopImp {i : Instr} (ho : i.operand = .imp) (hm : i.mnemonic = .nop) : HasOperand i
  | write {i : Instr} (m : MemMode) (v : State → Byte) (ho : i.operand = .mem m)
      (he : executorOf i.mnemonic = .write v) : HasOperand i
  | highAnd {i : Instr} (m : MemMode) (r : State → Byte) (exe : State → State) (ho : i.operand = .mem m)
      (he : executorOf i.mnemonic = .highAnd r exe) : HasOperand i
  | rmwMem {i : Instr} (m : MemMode) (f : Byte → State → Byte) (exe : Byte → State → State) (acc : State → State)
      (ho : i.operand = .mem m) (he : executorOf i.mnemonic = .rmw f exe acc) : HasOperand i
  | rmwAcc {i : Instr} (f : Byte → State → Byte) (exe : Byte → State → State) (acc : State → State)
      (ho : i.operand = .acc) (he : executorOf i.mnemonic = .rmw f exe acc) : HasOperand i
  | implied {i : Instr} (exe : State → State) (ho : i.operand = .imp)
      (he : executorOf i.mnemonic = .implied exe) : HasOperand i
  | branch {i : Instr} (d : Byte) (taken : State → Bool) (ho : i.operand = .rel d)
      (he : executorOf i.mnemonic = .branch taken) : HasOperand i

theorem hasOperand (i : Instr) : HasOperand i := by
  cases he : executorOf i.mnemonic with
  | read exe =>
    obtain ⟨m, ho⟩ | ⟨d, ho⟩ | ⟨hm, ho⟩ := operand_read he
    · exact .readMem m exe ho he
    · exact .readImm d exe ho he
    · exact .nopImp ho hm
  | write v =>
    obtain ⟨m, ho⟩ := operand_write he
    exact .write m v ho he
  | highAnd r exe =>
    obtain ⟨m, ho⟩ := operand_highAnd he
    exact .highAnd m r exe ho he
  | rmw f exe acc =>
    obtain ⟨m, ho⟩ | ho := operand_rmw he
    · exact .rmwMem m f exe acc ho he
    · exact .rmwAcc f exe acc ho he
  | implied exe => exact .implied exe (operand_implied he) he
  | branch taken =>
    obtain ⟨d, ho⟩ := operand_branch he
    exact .branch d taken ho he
  | jmp | jsr | rts | rti | brk | pha | php | pla | plp | jam =>
    exact .own (ownSequence_of_executorOf (congrArg Executor.ownSequence he))

/-! Cycles and accesses (R148). -/

/-- `t` comes from `s` by an access sequence of `n` cycles, one access for each. -/
def Counted (n : Nat) (s t : State) : Prop := t.cycles = s.cycles + n ∧ t.accesses.length = n

section
variable {n : Nat} {s t : State}

theorem counted_fetchOpcode (s : State) : Counted 1 s s.fetchOpcode := ⟨rfl, rfl⟩

theorem Counted.onRead (h : Counted n s t) (a : Word) : Counted (n + 1) s (t.onRead a) := by
  obtain ⟨hcycles, haccesses⟩ := h
  exact ⟨congrArg (· + 1) hcycles, by simp [haccesses]⟩

theorem Counted.onWrite (h : Counted n s t) (a : Word) (v : Byte) : Counted (n + 1) s (t.onWrite a v) := by
  obtain ⟨hcycles, haccesses⟩ := h
  exact ⟨congrArg (· + 1) hcycles, by simp [haccesses]⟩

/-- What changes neither the counter nor the accesses. -/
theorem Counted.congr {u : State} (h : Counted n s t) (hcycles : u.cycles = t.cycles) (haccesses : u.accesses = t.accesses) :
    Counted n s u := by
  rwa [Counted, hcycles, haccesses]

theorem Counted.onFetch (h : Counted n s t) : Counted (n + 1) s t.onFetch := (h.onRead t.pc).congr rfl rfl
theorem Counted.touchStack (h : Counted n s t) : Counted (n + 1) s t.touchStack := h.onRead _
theorem Counted.onPull (h : Counted n s t) : Counted (n + 1) s t.onPull := (h.onRead _).congr rfl rfl
theorem Counted.push (h : Counted n s t) (v : Byte) : Counted (n + 1) s (t.push v) := (h.onWrite _ v).congr rfl rfl

theorem Counted.enterVector (h : Counted n s t) (b : Bool) (vec : Word) : Counted (n + 5) s (t.enterVector b vec) := by
  obtain ⟨hcycles, haccesses⟩ := h
  exact ⟨congrArg (· + 5) hcycles, by simp [State.enterVector, haccesses]⟩

theorem Counted.returnFromVector (h : Counted n s t) : Counted (n + 3) s t.returnFromVector := by
  obtain ⟨hcycles, haccesses⟩ := h
  exact ⟨congrArg (· + 3) hcycles, by simp [State.returnFromVector, haccesses]⟩

theorem Counted.ite_onRead {b : Bool} (h : Counted n s t) (a : Word) :
    Counted (n + if b then 1 else 0) s (if b then t.onRead a else t) := by
  cases b with
  | false => exact h
  | true => exact h.onRead a

end

theorem counted_resolve (m : MemMode) (s : State) : Counted m.addressCycles s (m.resolve s) := by
  have hfetch := counted_fetchOpcode s
  cases m with
  | zp z => exact hfetch.onFetch
  | zpx z | zpy z => exact hfetch.onFetch.onRead _
  | abs a | abx a | aby a => exact hfetch.onFetch.onFetch
  | izx z => exact ((hfetch.onFetch.onRead _).onRead _).onRead _
  | izy z => exact (hfetch.onFetch.onRead _).onRead _

theorem counted_beforeRead (m : MemMode) (s : State) :
    Counted (m.addressCycles + if m.crossed s then 1 else 0) s (m.beforeRead s) :=
  (counted_resolve m s).ite_onRead _

theorem counted_beforeWrite (m : MemMode) (s : State) :
    Counted (m.addressCycles + if m.indexesWord then 1 else 0) s (m.beforeWrite s) :=
  (counted_resolve m s).ite_onRead _

/-- A branch: a cycle more when it is taken, and another when the target is on another page (R174). -/
theorem counted_branchInstr (taken : Bool) (d : Byte) (s : State) :
    ∃ t, branchInstr taken d s = .next t ∧
      Counted (2 + if taken then if hi (branchTarget (s.pc + 2) d) = hi (s.pc + 2) then 1 else 2 else 0) s t := by
  have hpc : s.fetchOpcode.onFetch.pc = s.pc + 2 := by simp [BitVec.add_assoc]
  have hfetch := (counted_fetchOpcode s).onFetch
  cases taken with
  | false => exact ⟨_, rfl, hfetch⟩
  | true =>
    simp only [branchInstr, hpc, Bool.not_true, Bool.false_eq_true, if_false, if_true]
    split
    · exact ⟨_, rfl, (hfetch.onRead _).congr rfl rfl⟩
    · exact ⟨_, rfl, ((hfetch.onRead _).onRead _).congr rfl rfl⟩

theorem cycles_of_update {m : Mnemonic} {exe : State → State} (h : (executorOf m).Update exe) (s : State) :
    (exe s).cycles = s.cycles := by
  cases m <;> cases h <;> rfl

theorem Counted.update {n : Nat} {s t : State} {m : Mnemonic} {exe : State → State} (h : Counted n s t)
    (he : (executorOf m).Update exe) : Counted n s (exe t) :=
  h.congr (cycles_of_update he t) (accesses_of_update he t)

/-- The cycle count of an instruction, by its executor and operand. -/
theorem instrCycles_eq {i : Instr} (hm : i.mnemonic ≠ .jam) (s : State) :
    instrCycles i s =
      (executorOf i.mnemonic).baseCycles i.operand +
        (if (executorOf i.mnemonic).paysPageCross i.operand && operandCrossed i s then 1 else 0) + branchExtra i s := by
  have htable := opcodeRow_opcode i
  rw [instrCycles]
  cases hrow : opcodeRow i.opcode with
  | none => simp [hrow] at htable
  | some row =>
    simp only [hrow, Option.map_some, Option.some.injEq, Prod.mk.injEq] at htable
    obtain ⟨hmnemonic, -, hcycles, hcross⟩ := htable
    simp only [hmnemonic, hm, if_false, hcycles, hcross]

theorem exec_jam_counted (k : Fin 12) (s : State) : ∃ t, exec (.jam k) s = .next t ∧ Counted (instrCycles (.jam k) s) s t := by
  have hcycles : instrCycles (.jam k) s = 1 := by
    simp only [instrCycles]
    match k with | 0 | 1 | 2 | 3 | 4 | 5 | 6 | 7 | 8 | 9 | 10 | 11 => rfl
  rw [hcycles]
  exact ⟨_, rfl, (counted_fetchOpcode s).congr rfl rfl⟩

/-- The sequences of their own take the base cycles of the table: they index nothing and are no branches. -/
theorem instrCycles_of_own {i : Instr} (h : OwnSequence i) (hm : i.mnemonic ≠ .jam) (s : State) :
    instrCycles i s = (executorOf i.mnemonic).baseCycles i.operand := by
  rw [instrCycles_eq hm]
  cases h <;> rfl

theorem exec_own_counted {i : Instr} (h : OwnSequence i) (s : State) :
    ∃ t, exec i s = .next t ∧ Counted (instrCycles i s) s t := by
  have hfetch := counted_fetchOpcode s
  have hprefix : Counted 2 s (stackPrefix s) := hfetch.onRead _
  by_cases hm : i.mnemonic = .jam
  case pos =>
    cases h <;> cases hm
    exact exec_jam_counted _ s
  rw [instrCycles_of_own h hm]
  cases h with
  | jam k => exact absurd rfl hm
  | brk => exact ⟨_, rfl, hfetch.onFetch.enterVector _ _⟩
  | rti => exact ⟨_, rfl, hprefix.touchStack.returnFromVector⟩
  | rts => exact ⟨_, rfl, (hprefix.touchStack.onPull.onPull.congr rfl rfl).onFetch⟩
  | pha | php => exact ⟨_, rfl, hprefix.push _⟩
  | pla | plp => exact ⟨_, rfl, hprefix.touchStack.onPull.congr rfl rfl⟩
  | jsr a => exact ⟨_, rfl, (((hfetch.onFetch.touchStack.push _).push _).onRead _).congr rfl rfl⟩
  | jmpAbs a => exact ⟨_, rfl, hfetch.onFetch.onFetch.congr rfl rfl⟩
  | jmpInd p => exact ⟨_, rfl, ((hfetch.onFetch.onFetch.onRead _).onRead _).congr rfl rfl⟩

/-- What an instruction in one of the shared forms takes: its base cycles, and the page-cross and branch cycles. -/
theorem instrCycles_of_executorOf {i : Instr} {e : Executor} (he : executorOf i.mnemonic = e) (hown : e.ownSequence = false)
    (s : State) :
    instrCycles i s =
      e.baseCycles i.operand + (if e.paysPageCross i.operand && operandCrossed i s then 1 else 0) + branchExtra i s := by
  subst he
  exact instrCycles_eq (fun hm => by simp [hm, executorOf, Executor.ownSequence] at hown) s

theorem operandCrossed_of_mem {i : Instr} {m : MemMode} (ho : i.operand = .mem m) (s : State) :
    operandCrossed i s = m.crossed s := by
  simp only [operandCrossed, ho]

theorem branchExtra_of_rel {i : Instr} {d : Byte} (ho : i.operand = .rel d) (s : State) :
    branchExtra i s =
      if branchTaken i.mnemonic s.flags then if hi (branchTarget (s.pc + 2) d) = hi (s.pc + 2) then 1 else 2 else 0 := by
  simp only [branchExtra, ho]

theorem branchExtra_of_not_rel {i : Instr} {o : Operand} (ho : i.operand = o) (h : ∀ d, o ≠ .rel d) (s : State) :
    branchExtra i s = 0 := by
  subst ho
  unfold branchExtra
  split
  · rename_i d hd
    exact absurd hd (h d)
  all_goals rfl

/-- Settles O7: each form, and each sequence of its own, makes one access for each cycle that the opcode table counts. -/
theorem everyInstructionCompletes : Obligations.EveryInstructionCompletes := by
  unfold Obligations.EveryInstructionCompletes
  intro i s
  suffices h : ∃ t, exec i s = .next t ∧ Counted (instrCycles i s) s t from h
  have hfetch := counted_fetchOpcode s
  have hupdate {exe : State → State} (he : (executorOf i.mnemonic).Update exe) {n : Nat} {u : State} (hu : Counted n s u) :
      Counted n s (exe u) := hu.update he
  cases hasOperand i with
  | own h => exact exec_own_counted h s
  | readMem m exe ho he =>
    have hpays : (m.indexesWord && m.crossed s) = m.crossed s := by rw [MemMode.crossed, ← Bool.and_assoc, Bool.and_self]
    have hcycles : instrCycles i s = m.addressCycles + (if m.crossed s then 1 else 0) + 1 := by
      rw [instrCycles_of_executorOf he rfl, branchExtra_of_not_rel ho (by simp), operandCrossed_of_mem ho, ho]
      simp only [Executor.baseCycles, Executor.paysPageCross, hpays]
      omega
    rw [hcycles]
    exact ⟨_, exec_read_mem ho he s, hupdate (he ▸ .read exe _) ((counted_beforeRead m s).onRead _)⟩
  | readImm d exe ho he =>
    rw [instrCycles_of_imm ho]
    exact ⟨_, exec_read_imm ho he s, hupdate (he ▸ .read exe d) hfetch.onFetch⟩
  | nopImp ho hm =>
    rw [instrCycles_of_executorOf (congrArg executorOf hm) rfl, branchExtra_of_not_rel ho (by simp), ho]
    exact ⟨_, exec_nop_imp hm ho s, hfetch.onRead _⟩
  | write m v ho he =>
    rw [instrCycles_of_executorOf he rfl, branchExtra_of_not_rel ho (by simp), ho]
    exact ⟨_, exec_write ho he s, (counted_beforeWrite m s).onWrite _ _⟩
  | highAnd m r exe ho he =>
    rw [instrCycles_of_executorOf he rfl, branchExtra_of_not_rel ho (by simp), ho]
    exact ⟨_, exec_highAnd ho he s, hupdate (he ▸ .highAnd r exe) ((counted_beforeWrite m s).onWrite _ _)⟩
  | rmwMem m f exe acc ho he =>
    rw [instrCycles_of_executorOf he rfl, branchExtra_of_not_rel ho (by simp), ho]
    exact ⟨_, exec_rmw_mem ho he s,
      hupdate (he ▸ .rmw f exe acc _) ((((counted_beforeWrite m s).onRead _).onWrite _ _).onWrite _ _)⟩
  | rmwAcc f exe acc ho he =>
    rw [instrCycles_of_executorOf he rfl, branchExtra_of_not_rel ho (by simp), ho]
    exact ⟨_, exec_rmw_acc ho he s, hupdate (he ▸ .acc f exe acc) (hfetch.onRead _)⟩
  | implied exe ho he =>
    rw [instrCycles_of_executorOf he rfl, branchExtra_of_not_rel ho (by simp), ho]
    exact ⟨_, exec_implied he s, hupdate (he ▸ .implied exe) (hfetch.onRead _)⟩
  | branch d taken ho he =>
    rw [instrCycles_of_executorOf he rfl, branchExtra_of_rel ho, exec_of_rel ho, ho]
    exact counted_branchInstr (branchTaken i.mnemonic s.flags) d s

end Sys2Proof.Machine
end

section
/-! PROOFS of the family 40_instruction_cycle, the ticks. A state in the middle of an instruction is a state at a boundary with other
latches in its instruction-cycle state; every tick is one bus cycle of the former and an update of the latter
(40_instruction_cycle.md R140 to R150). -/

namespace Sys2Proof.Machine

/-! Runs of ticks. -/

/-- One tick of a running machine, which counts one cycle (R140, R148). -/
def OneTick (s t : State) : Prop := s.halted = .running ∧ runningTick s = t ∧ t.cycles = s.cycles + 1

/-- Any number of ticks, one after the other. -/
abbrev Ticks : State → State → Prop := Relation.ReflTransGen OneTick

/-- A run of ticks has as many of them as it counts cycles. -/
theorem Ticks.ticks_eq {s t : State} (h : Ticks s t) : s.cycles ≤ t.cycles ∧ ticks (t.cycles - s.cycles) s = .next t := by
  induction h using Relation.ReflTransGen.head_induction_on with
  | refl => exact ⟨Nat.le_refl _, by rw [Nat.sub_self, ticks]⟩
  | @head u v h _ ih =>
    obtain ⟨hrun, rfl, hcycles⟩ := h
    obtain ⟨hle, hticks⟩ := ih
    have hsub : t.cycles - u.cycles = (t.cycles - (runningTick u).cycles) + 1 := by omega
    refine ⟨by omega, ?_⟩
    rw [hsub, ticks, tick, hrun, haltFault]
    exact hticks

/-! A state with other latches: the bus operations do not see them. -/

/-- The state with another instruction-cycle state. -/
def State.withIc (s : State) (c : ICycle) : State := { s with ic := c }

section
variable (s : State) (c : ICycle)

@[simp] theorem State.withIc_ic : (s.withIc c).ic = c := rfl
@[simp] theorem State.withIc_a : (s.withIc c).a = s.a := rfl
@[simp] theorem State.withIc_x : (s.withIc c).x = s.x := rfl
@[simp] theorem State.withIc_y : (s.withIc c).y = s.y := rfl
@[simp] theorem State.withIc_sp : (s.withIc c).sp = s.sp := rfl
@[simp] theorem State.withIc_pc : (s.withIc c).pc = s.pc := rfl
@[simp] theorem State.withIc_flags : (s.withIc c).flags = s.flags := rfl
@[simp] theorem State.withIc_cycles : (s.withIc c).cycles = s.cycles := rfl
@[simp] theorem State.withIc_halted : (s.withIc c).halted = s.halted := rfl
@[simp] theorem State.withIc_ram : (s.withIc c).ram = s.ram := rfl

@[simp] theorem State.readValue_withIc (a : Word) : (s.withIc c).readValue a = s.readValue a := rfl
@[simp] theorem State.pullValue_withIc : (s.withIc c).pullValue = s.pullValue := rfl
@[simp] theorem State.onRead_withIc (a : Word) : (s.withIc c).onRead a = (s.onRead a).withIc c := rfl
@[simp] theorem State.onWrite_withIc (a : Word) (v : Byte) : (s.withIc c).onWrite a v = (s.onWrite a v).withIc c := rfl
@[simp] theorem State.onFetch_withIc : (s.withIc c).onFetch = s.onFetch.withIc c := rfl
@[simp] theorem State.touchStack_withIc : (s.withIc c).touchStack = s.touchStack.withIc c := rfl
@[simp] theorem State.onPull_withIc : (s.withIc c).onPull = s.onPull.withIc c := rfl
@[simp] theorem State.push_withIc (v : Byte) : (s.withIc c).push v = (s.push v).withIc c := rfl

@[simp] theorem State.nextTick_withIc : (s.withIc c).nextTick = s.withIc { c with tick := c.tick + 1 } := rfl
@[simp] theorem State.toExecute_withIc : (s.withIc c).toExecute = s.withIc { c with opstate := .execute, tick := 0 } := rfl
@[simp] theorem State.fuse_withIc : (s.withIc c).fuse = s.withIc { c with skipTransition := true } := rfl
@[simp] theorem State.latchAddress_withIc (a : Word) : (s.withIc c).latchAddress a = s.withIc { c with address := a } := rfl
@[simp] theorem State.latchBase_withIc (a : Word) : (s.withIc c).latchBase a = s.withIc { c with baseAddress := a } := rfl
@[simp] theorem State.latchTmp_withIc (v : Byte) : (s.withIc c).latchTmp v = s.withIc { c with tmp := v } := rfl

end

/-- The end of an instruction brings back the latches of the boundary. -/
theorem State.endInstr_withIc {s : State} (hs : s.ic = ICycle.boundary) (c : ICycle) : (s.withIc c).endInstr = s := by
  rw [State.endInstr, State.withIc, ← hs]

@[simp] theorem lo_zext16 (b : Byte) : lo (zext16 b) = b := by
  rw [← BitVec.toNat_inj, toNat_lo, toNat_zext16, Nat.mod_eq_of_lt b.isLt]

/-! One tick, by what the latches hold. -/

/-- The latches of an instruction in DECODE. -/
def ICycle.Decodes (c : ICycle) (i : Instr) : Prop := c.opstate = .decode ∧ c.opcode = i.opcode

/-- The latches of an instruction in EXECUTE. -/
def ICycle.Executes (c : ICycle) (i : Instr) : Prop := c.opstate = .execute ∧ c.opcode = i.opcode ∧ c.intKind = none

/-- The latches after the FETCH of an instruction (R141). -/
def fetchedLatches (i : Instr) : ICycle :=
  { ICycle.boundary with
    opstate := if (executorOf i.mnemonic).skipsDecode then .execute else .decode
    opcode := i.opcode
    opgroup := ((opcodeRow i.opcode).map (·.group)).getD .none }

theorem exists_opcodeRow (i : Instr) :
    ∃ row, opcodeRow i.opcode = some row ∧ row.mnemonic = i.mnemonic ∧ row.mode = i.operand.mode := by
  obtain ⟨row, hrow, h⟩ := Option.map_eq_some_iff.1 (opcodeRow_opcode i)
  simp only [Prod.mk.injEq] at h
  obtain ⟨hmnemonic, hmode, -⟩ := h
  exact ⟨row, hrow, hmnemonic, hmode⟩

section
variable {i : Instr} {u t : State} {c : ICycle}

theorem opcodeTick_of_decodes (hc : c.Decodes i) :
    opcodeTick (u.withIc c) =
      if (decodeTick (executorOf i.mnemonic) i.operand.mode (u.withIc c)).ic.skipTransition then
        ((executorOf i.mnemonic).fused i.operand.mode
          (decodeTick (executorOf i.mnemonic) i.operand.mode (u.withIc c))).endInstr
      else decodeTick (executorOf i.mnemonic) i.operand.mode (u.withIc c) := by
  obtain ⟨hstate, hop⟩ := hc
  obtain ⟨row, hrow, hmnemonic, hmode⟩ := exists_opcodeRow i
  simp only [opcodeTick, State.withIc_ic, hop, hrow, hstate, hmnemonic, hmode]

theorem OneTick.decode (hrun : u.halted = .running) (hc : c.Decodes i)
    (h : decodeTick (executorOf i.mnemonic) i.operand.mode (u.withIc c) = t) (hskip : t.ic.skipTransition = false)
    (hcycles : t.cycles = u.cycles + 1) : OneTick (u.withIc c) t := by
  refine ⟨hrun, ?_, hcycles⟩
  simp only [runningTick, State.withIc_ic, hc.1, opcodeTick_of_decodes hc, h, hskip, Bool.false_eq_true, if_false]

/-- The tick that fuses DECODE and EXECUTE (R145). -/
theorem OneTick.fused {v : State} (hrun : u.halted = .running) (hc : c.Decodes i)
    (h : decodeTick (executorOf i.mnemonic) i.operand.mode (u.withIc c) = v) (hskip : v.ic.skipTransition = true)
    (ht : ((executorOf i.mnemonic).fused i.operand.mode v).endInstr = t)
    (hcycles : t.cycles = u.cycles + 1) : OneTick (u.withIc c) t := by
  refine ⟨hrun, ?_, hcycles⟩
  simp only [runningTick, State.withIc_ic, hc.1, opcodeTick_of_decodes hc, h, hskip, if_true, ht]

theorem runningTick_of_executes (hc : c.Executes i) :
    runningTick (u.withIc c) = executeTick (executorOf i.mnemonic) (u.withIc c) := by
  obtain ⟨hstate, hop, hkind⟩ := hc
  obtain ⟨row, hrow, hmnemonic, -⟩ := exists_opcodeRow i
  simp only [runningTick, opcodeTick, State.withIc_ic, hstate, hkind, hop, hrow, hmnemonic]

theorem OneTick.execute (hrun : u.halted = .running) (hc : c.Executes i)
    (h : executeTick (executorOf i.mnemonic) (u.withIc c) = t) (hcycles : t.cycles = u.cycles + 1) :
    OneTick (u.withIc c) t :=
  ⟨hrun, (runningTick_of_executes hc).trans h, hcycles⟩

theorem runningTick_of_interrupt {k : IntKind} (hstate : c.opstate = .execute) (hkind : c.intKind = some k) :
    runningTick (u.withIc c) = interruptTick k (u.withIc c) := by
  simp only [runningTick, State.withIc_ic, hstate, hkind]

end

/-- The FETCH of an ordinary instruction (R141). -/
theorem oneTick_fetch {s : State} {i : Instr} (hrun : s.halted = .running) (hs : s.ic = ICycle.boundary)
    (hquiet : s.arbitrate = none) (hop : s.readValue s.pc = i.opcode) (hm : i.mnemonic ≠ .jam) :
    OneTick s (s.fetchOpcode.withIc (fetchedLatches i)) := by
  obtain ⟨row, hrow, hmnemonic, -⟩ := exists_opcodeRow i
  refine ⟨hrun, ?_, rfl⟩
  have hstate : s.ic.opstate = .fetch := congrArg ICycle.opstate hs
  simp only [runningTick, hstate, fetchTick, hquiet, hop, hrow, hmnemonic]
  rw [fetchedLatches, hrow]
  generalize i.mnemonic = m at hm ⊢
  cases m with
  | jam => exact absurd rfl hm
  | _ => rfl

/-- The FETCH of JAM halts the block (45_undocumented.md R372). -/
theorem oneTick_fetch_jam {s : State} {k : Fin 12} (hrun : s.halted = .running) (hs : s.ic = ICycle.boundary)
    (hquiet : s.arbitrate = none) (hop : s.readValue s.pc = Instr.opcode (.jam k)) :
    OneTick s (jamHalt (jamOpcode k) s.fetchOpcode) := by
  obtain ⟨row, hrow, hmnemonic, -⟩ := exists_opcodeRow (.jam k)
  refine ⟨hrun, ?_, rfl⟩
  have hstate : s.ic.opstate = .fetch := congrArg ICycle.opstate hs
  simp only [runningTick, hstate, fetchTick, hquiet, hop, hrow, hmnemonic, Instr.mnemonic, ← hs]
  rfl

/-- The FETCH that takes an interrupt: the first dummy read at PC (60_exceptions.md R407). -/
theorem oneTick_fetch_interrupt {s : State} {k : IntKind} (hrun : s.halted = .running) (hs : s.ic = ICycle.boundary)
    (hk : s.arbitrate = some k) :
    OneTick s
      (((s.consume k).beginSequence.onRead s.pc).withIc { ICycle.boundary with opstate := .execute, intKind := some k }) := by
  have hstate : s.ic.opstate = .fetch := congrArg ICycle.opstate hs
  refine ⟨hrun, ?_, by cases k <;> rfl⟩
  simp only [runningTick, hstate, fetchTick, hk, State.withIc]

end Sys2Proof.Machine
end

section
/-! PROOFS of the family 40_instruction_cycle, the memory modes. DECODE of each addressing mode goes through the accesses of its
resolver, and leaves the effective address in the latches (40_instruction_cycle.md R142, R150; 41_addressing_modes.md R165 to
R173). -/

namespace Sys2Proof.Machine

/-! What a mode leaves in the latches. -/

/-- The DECODE tick in which a mode latches its effective address. -/
def eaTick : MemMode → Nat
  | .zp _ => 0
  | .zpx _ | .zpy _ | .abs _ | .abx _ | .aby _ => 1
  | .izx _ => 3
  | .izy _ => 2

/-- What a mode leaves in base_address (R35; log 33). -/
def latchedBase (m : MemMode) (s : State) (c : ICycle) : Word :=
  match m with
  | .zp _ | .abs _ => c.baseAddress
  | .zpx z | .zpy z | .izx z => zext16 z
  | .abx _ | .aby _ | .izy _ => m.base s

/-- The latches in the tick in which the effective address is known. -/
def eaLatches (m : MemMode) (s : State) (c : ICycle) : ICycle :=
  { c with tick := eaTick m, address := m.ea s, baseAddress := latchedBase m s c }

/-- Where a mode goes from there: the word-indexed modes may pay the extra cycle first (R150, R175). -/
def eaKnown (m : MemMode) (s : State) : State := if m.indexesWord then s.indexed else s.resolved

theorem resolved_keeps (s : State) :
    s.resolved.ic.skipTransition = s.ic.skipTransition ∧ s.resolved.cycles = s.cycles := by
  unfold State.resolved
  split <;> exact ⟨rfl, rfl⟩

theorem indexed_keeps (s : State) : s.indexed.ic.skipTransition = s.ic.skipTransition ∧ s.indexed.cycles = s.cycles := by
  unfold State.indexed
  split
  · split <;> exact ⟨rfl, rfl⟩
  all_goals exact ⟨rfl, rfl⟩

theorem eaKnown_keeps (m : MemMode) (s : State) :
    (eaKnown m s).ic.skipTransition = s.ic.skipTransition ∧ (eaKnown m s).cycles = s.cycles := by
  unfold eaKnown
  split
  · exact indexed_keeps s
  · exact resolved_keeps s

section
variable {i : Instr} {m : MemMode} {s : State} {c : ICycle}

/-- A DECODE tick of an instruction with a memory operand. -/
theorem OneTick.decodeMem {u v : State} {c d : ICycle} (ho : i.operand = .mem m) (hu : u.halted = .running)
    (hc : c.Decodes i) (hd : d.skipTransition = false)
    (h : decodeTick (executorOf i.mnemonic) m.mode (u.withIc c) = v.withIc d) (hcycles : v.cycles = u.cycles + 1) :
    OneTick (u.withIc c) (v.withIc d) :=
  .decode hu hc (by rw [ho]; exact h) hd hcycles

/-- The DECODE tick in which the effective address becomes known. -/
theorem OneTick.eaKnown {u v : State} {c d : ICycle} (ho : i.operand = .mem m) (hu : u.halted = .running)
    (hc : c.Decodes i) (hd : d.skipTransition = false)
    (h : decodeTick (executorOf i.mnemonic) m.mode (u.withIc c) = eaKnown m (v.withIc d)) (hcycles : v.cycles = u.cycles + 1) :
    OneTick (u.withIc c) (eaKnown m (v.withIc d)) := by
  obtain ⟨hskip, hcount⟩ := eaKnown_keeps m (v.withIc d)
  exact .decode hu hc (by rw [ho]; exact h) (hskip.trans hd) (hcount.trans hcycles)

/-! The ticks of DECODE up to the effective address. What the operand bytes are, each of these takes from the fetches. -/

theorem ticks_resolve_zp {z : Byte} (hrun : s.halted = .running) (ho : i.operand = .mem (.zp z)) (hc : c.Decodes i)
    (hskip : c.skipTransition = false) (hz : z = s.fetchOpcode.readValue (s.pc + 1#16)) :
    Ticks (s.fetchOpcode.withIc { c with tick := 0 })
      (eaKnown (.zp z) (((MemMode.zp z).resolve s).withIc (eaLatches (.zp z) s c))) := by
  refine .single (.eaKnown ho hrun hc hskip ?_ rfl)
  simp only [decodeTick, MemMode.mode, ← hz, State.withIc_ic, State.withIc_pc, State.fetchOpcode_pc, State.readValue_withIc]
  rfl

theorem ticks_resolve_zpIndexed {z : Byte} (hm : m = .zpx z ∨ m = .zpy z) (hrun : s.halted = .running)
    (ho : i.operand = .mem m) (hc : c.Decodes i) (hskip : c.skipTransition = false)
    (hz : z = s.fetchOpcode.readValue (s.pc + 1#16)) :
    Ticks (s.fetchOpcode.withIc { c with tick := 0 }) (eaKnown m ((m.resolve s).withIc (eaLatches m s c))) := by
  have h0 : OneTick (s.fetchOpcode.withIc { c with tick := 0 })
      (s.fetchOpcode.onFetch.withIc { c with tick := 1, baseAddress := zext16 z }) := by
    refine .decodeMem ho hrun hc hskip ?_ rfl
    obtain rfl | rfl := hm <;> simp [decodeTick, MemMode.mode, zpIndexedTick, ← hz]
  refine .head h0 (.single (.eaKnown ho hrun hc hskip ?_ ?_))
  · obtain rfl | rfl := hm <;>
      simp [decodeTick, MemMode.mode, zpIndexedTick, eaKnown, MemMode.indexesWord, MemMode.resolve, eaLatches, eaTick, latchedBase,
        MemMode.ea]
  · obtain rfl | rfl := hm <;> rfl

theorem ticks_resolve_abs {a : Word} (hrun : s.halted = .running) (ho : i.operand = .mem (.abs a))
    (hjmp : executorOf i.mnemonic ≠ .jmp) (hc : c.Decodes i) (hskip : c.skipTransition = false)
    (hl : lo a = s.fetchOpcode.readValue (s.pc + 1#16))
    (hh : hi a = s.fetchOpcode.onFetch.readValue (s.pc + 1#16 + 1#16)) :
    Ticks (s.fetchOpcode.withIc { c with tick := 0 })
      (eaKnown (.abs a) (((MemMode.abs a).resolve s).withIc (eaLatches (.abs a) s c))) := by
  have h0 : OneTick (s.fetchOpcode.withIc { c with tick := 0 })
      (s.fetchOpcode.onFetch.withIc { c with tick := 1, address := zext16 (lo a) }) :=
    .decodeMem ho hrun hc hskip (by simp [decodeTick, MemMode.mode, ← hl]) rfl
  refine .head h0 (.single (.eaKnown ho hrun hc hskip ?_ rfl))
  cases he : executorOf i.mnemonic with
  | jmp => exact absurd he hjmp
  | _ =>
    simp [decodeTick, MemMode.mode, ← hh, eaKnown, MemMode.indexesWord, MemMode.resolve, eaLatches, eaTick, latchedBase, MemMode.ea]

theorem ticks_resolve_absIndexed {a : Word} (hm : m = .abx a ∨ m = .aby a) (hrun : s.halted = .running)
    (ho : i.operand = .mem m) (hc : c.Decodes i) (hskip : c.skipTransition = false)
    (hl : lo a = s.fetchOpcode.readValue (s.pc + 1#16))
    (hh : hi a = s.fetchOpcode.onFetch.readValue (s.pc + 1#16 + 1#16)) :
    Ticks (s.fetchOpcode.withIc { c with tick := 0 }) (eaKnown m ((m.resolve s).withIc (eaLatches m s c))) := by
  have h0 : OneTick (s.fetchOpcode.withIc { c with tick := 0 })
      (s.fetchOpcode.onFetch.withIc { c with tick := 1, address := zext16 (lo a) }) := by
    refine .decodeMem ho hrun hc hskip ?_ rfl
    obtain rfl | rfl := hm <;> simp [decodeTick, MemMode.mode, indexedTick, ← hl]
  refine .head h0 (.single (.eaKnown ho hrun hc hskip ?_ ?_))
  · obtain rfl | rfl := hm <;>
      simp [decodeTick, MemMode.mode, indexedTick, ← hh, eaKnown, MemMode.indexesWord, MemMode.resolve, eaLatches, eaTick,
        latchedBase, MemMode.ea, MemMode.base]
  · obtain rfl | rfl := hm <;> rfl

theorem ticks_resolve_izx {z : Byte} (hrun : s.halted = .running) (ho : i.operand = .mem (.izx z)) (hc : c.Decodes i)
    (hskip : c.skipTransition = false) (hz : z = s.fetchOpcode.readValue (s.pc + 1#16)) :
    Ticks (s.fetchOpcode.withIc { c with tick := 0 })
      (eaKnown (.izx z) (((MemMode.izx z).resolve s).withIc (eaLatches (.izx z) s c))) := by
  have h0 : OneTick (s.fetchOpcode.withIc { c with tick := 0 })
      (s.fetchOpcode.onFetch.withIc { c with tick := 1, baseAddress := zext16 z }) :=
    .decodeMem ho hrun hc hskip (by simp [decodeTick, MemMode.mode, ← hz]) rfl
  have h1 : OneTick (s.fetchOpcode.onFetch.withIc { c with tick := 1, baseAddress := zext16 z })
      ((s.fetchOpcode.onFetch.onRead (zext16 z)).withIc { c with tick := 2, baseAddress := zext16 z }) :=
    .decodeMem ho hrun hc hskip (by simp [decodeTick, MemMode.mode]) rfl
  have h2 : OneTick ((s.fetchOpcode.onFetch.onRead (zext16 z)).withIc { c with tick := 2, baseAddress := zext16 z })
      (((s.fetchOpcode.onFetch.onRead (zext16 z)).onRead (zext16 (z + s.x))).withIc
        { c with tick := 3, baseAddress := zext16 z, address := zext16 (s.readValue (zext16 (z + s.x))) }) :=
    .decodeMem ho hrun hc hskip (by simp [decodeTick, MemMode.mode]) rfl
  refine .head h0 (.head h1 (.head h2 (.single (.eaKnown ho hrun hc hskip ?_ rfl))))
  simp [decodeTick, MemMode.mode, eaKnown, MemMode.indexesWord, MemMode.resolve, eaLatches, eaTick, latchedBase, MemMode.ea,
    State.zpPointer]

theorem ticks_resolve_izy {z : Byte} (hrun : s.halted = .running) (ho : i.operand = .mem (.izy z)) (hc : c.Decodes i)
    (hskip : c.skipTransition = false) (hz : z = s.fetchOpcode.readValue (s.pc + 1#16)) :
    Ticks (s.fetchOpcode.withIc { c with tick := 0 })
      (eaKnown (.izy z) (((MemMode.izy z).resolve s).withIc (eaLatches (.izy z) s c))) := by
  have h0 : OneTick (s.fetchOpcode.withIc { c with tick := 0 })
      (s.fetchOpcode.onFetch.withIc { c with tick := 1, baseAddress := zext16 z }) :=
    .decodeMem ho hrun hc hskip (by simp [decodeTick, MemMode.mode, ← hz]) rfl
  have h1 : OneTick (s.fetchOpcode.onFetch.withIc { c with tick := 1, baseAddress := zext16 z })
      ((s.fetchOpcode.onFetch.onRead (zext16 z)).withIc
        { c with tick := 2, baseAddress := zext16 z, address := zext16 (s.readValue (zext16 z)) }) :=
    .decodeMem ho hrun hc hskip (by simp [decodeTick, MemMode.mode]) rfl
  refine .head h0 (.head h1 (.single (.eaKnown ho hrun hc hskip ?_ rfl)))
  simp [decodeTick, MemMode.mode, eaKnown, MemMode.indexesWord, MemMode.resolve, eaLatches, eaTick, latchedBase, MemMode.ea,
    MemMode.base, State.zpPointer]

/-- The ticks of DECODE up to the effective address are the accesses of the mode's resolver. -/
theorem ticks_resolve (hrun : s.halted = .running) (ho : i.operand = .mem m) (hjmp : executorOf i.mnemonic ≠ .jmp)
    (hc : c.Decodes i) (hskip : c.skipTransition = false)
    (hbytes : m.bytes <+: [s.fetchOpcode.readValue s.fetchOpcode.pc, s.fetchOpcode.onFetch.readValue s.fetchOpcode.onFetch.pc]) :
    Ticks (s.fetchOpcode.withIc { c with tick := 0 }) (eaKnown m ((m.resolve s).withIc (eaLatches m s c))) := by
  have hone {z b0 b1 : Byte} (h : [z] <+: [b0, b1]) : z = b0 := (List.cons_prefix_cons.1 h).1
  have htwo {l h b0 b1 : Byte} (hp : [l, h] <+: [b0, b1]) : l = b0 ∧ h = b1 :=
    (List.cons_prefix_cons.1 hp).imp_right fun hp => (List.cons_prefix_cons.1 hp).1
  cases m with
  | zp z => exact ticks_resolve_zp hrun ho hc hskip (hone hbytes)
  | zpx z => exact ticks_resolve_zpIndexed (.inl rfl) hrun ho hc hskip (hone hbytes)
  | zpy z => exact ticks_resolve_zpIndexed (.inr rfl) hrun ho hc hskip (hone hbytes)
  | izx z => exact ticks_resolve_izx hrun ho hc hskip (hone hbytes)
  | izy z => exact ticks_resolve_izy hrun ho hc hskip (hone hbytes)
  | abs a => exact ticks_resolve_abs hrun ho hjmp hc hskip (htwo hbytes).1 (htwo hbytes).2
  | abx a => exact ticks_resolve_absIndexed (.inl rfl) hrun ho hc hskip (htwo hbytes).1 (htwo hbytes).2
  | aby a => exact ticks_resolve_absIndexed (.inr rfl) hrun ho hc hskip (htwo hbytes).1 (htwo hbytes).2

/-! The extra cycle (R175). -/

theorem oneTick_pre (hrun : s.halted = .running) (ho : i.operand = .mem m) (hm : m.indexesWord = true)
    (hc : c.Decodes i) (hskip : c.skipTransition = false) :
    OneTick ((m.resolve s).withIc { eaLatches m s c with tick := eaTick m + 1 })
      (((m.resolve s).onRead (m.pre s)).withIc { eaLatches m s c with tick := eaTick m + 1 }).resolved := by
  have hpre : w16 (hi (m.base s)) (lo (m.ea s)) = m.pre s := by
    rw [MemMode.ea_of_indexesWord hm, lo_add_zext16]
    rfl
  obtain ⟨hkept, hcount⟩ := resolved_keeps (((m.resolve s).onRead (m.pre s)).withIc { eaLatches m s c with tick := eaTick m + 1 })
  refine .decode (by simp [hrun]) hc ?_ (hkept.trans hskip) hcount
  rw [ho, ← hpre]
  cases m <;> cases hm <;> rfl

theorem latchedCrossed_eaLatches (hm : m.indexesWord = true) (u : State) :
    (u.withIc (eaLatches m s c)).latchedCrossed = m.crossed s := by
  have hbase : latchedBase m s c = m.base s := by cases m <;> cases hm <;> rfl
  rw [Bool.eq_iff_iff, m.crossed_iff_hi_ne hm, ← hbase]
  exact bne_iff_ne

/-- A Read or Write instruction goes on to EXECUTE with the effective address latched. -/
theorem resolved_eaLatches (hg : c.opgroup ≠ .rmw) (u : State) (n : Nat) :
    (u.withIc { eaLatches m s c with tick := n }).resolved =
      u.withIc { eaLatches m s c with opstate := .execute, tick := 0 } := by
  simp only [State.resolved, State.withIc_ic, eaLatches]
  cases hgroup : c.opgroup with
  | rmw => exact absurd hgroup hg
  | read | write | none => rfl

/-- From the effective address to EXECUTE, in a Read instruction. -/
theorem ticks_beforeRead (hrun : s.halted = .running) (ho : i.operand = .mem m) (hc : c.Decodes i)
    (hskip : c.skipTransition = false) (hg : c.opgroup = .read) :
    Ticks (eaKnown m ((m.resolve s).withIc (eaLatches m s c)))
      ((m.beforeRead s).withIc { eaLatches m s c with opstate := .execute, tick := 0 }) := by
  have hresolved := resolved_eaLatches (m := m) (s := s) (c := c) (by rw [hg]; decide)
  cases hm : m.indexesWord with
  | false =>
    have hcross : m.crossed s = false := by rw [MemMode.crossed, hm, Bool.false_and]
    simp only [eaKnown, hm, MemMode.beforeRead, hcross, Bool.false_eq_true, if_false]
    rw [← hresolved (m.resolve s) (eaTick m)]
    exact .refl
  | true =>
    have hindexed : eaKnown m ((m.resolve s).withIc (eaLatches m s c)) =
        if m.crossed s then (m.resolve s).withIc { eaLatches m s c with tick := eaTick m + 1 }
        else (m.resolve s).withIc { eaLatches m s c with opstate := .execute, tick := 0 } := by
      simp only [eaKnown, hm, if_true, State.indexed, State.withIc_ic, latchedCrossed_eaLatches hm]
      simp only [eaLatches, hg]
      rfl
    rw [hindexed, MemMode.beforeRead]
    cases m.crossed s with
    | false => exact .refl
    | true =>
      rw [if_pos rfl, if_pos rfl, ← hresolved _ (eaTick m + 1)]
      exact .single (oneTick_pre hrun ho hm hc hskip)

/-- The last tick of a Write or Read-Modify-Write instruction's resolver, the word-indexed modes' extra cycle included (R169, R170,
R173). -/
def writeTick (m : MemMode) : Nat := eaTick m + if m.indexesWord then 1 else 0

theorem ticks_beforeWrite (hrun : s.halted = .running) (ho : i.operand = .mem m) (hc : c.Decodes i)
    (hskip : c.skipTransition = false) (hg : c.opgroup = .write ∨ c.opgroup = .rmw) :
    Ticks (eaKnown m ((m.resolve s).withIc (eaLatches m s c)))
      ((m.beforeWrite s).withIc { eaLatches m s c with tick := writeTick m }).resolved := by
  rw [MemMode.beforeWrite, writeTick]
  cases hm : m.indexesWord with
  | false =>
    simp only [eaKnown, hm, Bool.false_eq_true, if_false]
    exact .refl
  | true =>
    have hindexed : eaKnown m ((m.resolve s).withIc (eaLatches m s c)) =
        (m.resolve s).withIc { eaLatches m s c with tick := eaTick m + 1 } := by
      simp only [eaKnown, hm, if_true, State.indexed, State.withIc_ic]
      obtain hg | hg := hg <;> (simp only [eaLatches, hg]; rfl)
    rw [hindexed]
    exact .single (oneTick_pre hrun ho hm hc hskip)

/-- The read and the write-back of a Read-Modify-Write instruction, in DECODE (R150). -/
theorem ticks_rmw (hrun : s.halted = .running) (ho : i.operand = .mem m) (hc : c.Decodes i)
    (hskip : c.skipTransition = false) (hg : c.opgroup = .rmw) :
    Ticks ((m.beforeWrite s).withIc { eaLatches m s c with tick := writeTick m }).resolved
      ((((m.beforeWrite s).onRead (m.ea s)).onWrite (m.ea s) (m.operandRmw s)).withIc
        { eaLatches m s c with opstate := .execute, tick := 0, tmp := m.operandRmw s }) := by
  have hresolved : ((m.beforeWrite s).withIc { eaLatches m s c with tick := writeTick m }).resolved =
      (m.beforeWrite s).withIc { eaLatches m s c with tick := writeTick m + 1 } := by
    simp only [State.resolved, State.withIc_ic, eaLatches, hg]
    rfl
  have hrmw (k : Nat) (e : Executor) (u : State) (v : Byte) :
      decodeTick e m.mode (u.withIc { eaLatches m s c with tick := writeTick m + 1 + k, tmp := v }) =
        rmwTick k (u.withIc { eaLatches m s c with tick := writeTick m + 1 + k, tmp := v }) := by
    rw [Nat.add_comm _ k]
    cases m <;> rfl
  have hread : OneTick ((m.beforeWrite s).withIc { eaLatches m s c with tick := writeTick m + 1 })
      (((m.beforeWrite s).onRead (m.ea s)).withIc
        { eaLatches m s c with tick := writeTick m + 1 + 1, tmp := m.operandRmw s }) :=
    .decode (by simp [hrun]) hc (by rw [ho]; exact hrmw 0 _ _ c.tmp) hskip rfl
  have hback : OneTick
      (((m.beforeWrite s).onRead (m.ea s)).withIc
        { eaLatches m s c with tick := writeTick m + 1 + 1, tmp := m.operandRmw s })
      ((((m.beforeWrite s).onRead (m.ea s)).onWrite (m.ea s) (m.operandRmw s)).withIc
        { eaLatches m s c with opstate := .execute, tick := 0, tmp := m.operandRmw s }) :=
    .decode (by simp [hrun]) hc (by rw [ho]; exact hrmw 1 _ _ _) hskip rfl
  rw [hresolved]
  exact .head hread (.single hback)

end
end Sys2Proof.Machine
end

section
/-! PROOFS of the family 40_instruction_cycle, the instructions. From its FETCH on, each instruction goes tick by tick through the
accesses of its meaning, and ends in the state that exec answers (40_instruction_cycle.md R141 to R149). -/

namespace Sys2Proof.Machine

/-! The executors do not see the latches. -/

theorem update_withIc {m : Mnemonic} {exe : State → State} (h : (executorOf m).Update exe) (s : State) (c : ICycle) :
    exe (s.withIc c) = (exe s).withIc c := by
  cases m <;> cases h <;> rfl

theorem endInstr_update {m : Mnemonic} {exe : State → State} (h : (executorOf m).Update exe) {s : State}
    (hs : s.ic = ICycle.boundary) (c : ICycle) : (exe (s.withIc c)).endInstr = exe s := by
  rw [update_withIc h, State.endInstr_withIc ((sameStore_of_update h s).ic.trans hs)]

/-- The byte that a store writes is made of A, X and Y. -/
theorem write_congr {m : Mnemonic} {v : State → Byte} (he : executorOf m = .write v) {s t : State} (ha : t.a = s.a)
    (hx : t.x = s.x) (hy : t.y = s.y) : v t = v s := by
  cases m <;> cases he <;> simp [staValue, stxValue, styValue, saxValue, ha, hx, hy]

theorem highAnd_congr {m : Mnemonic} {r : State → Byte} {exe : State → State} (he : executorOf m = .highAnd r exe)
    {s t : State} (ha : t.a = s.a) (hx : t.x = s.x) (hy : t.y = s.y) : r t = r s := by
  cases m <;> cases he <;> simp [shaRegister, shxRegister, shyRegister, tasRegister, ha, hx, hy]

/-- The byte that a Read-Modify-Write instruction writes is made of the old one and the carry. -/
theorem rmw_congr {m : Mnemonic} {f : Byte → State → Byte} {exe : Byte → State → State} {acc : State → State}
    (he : executorOf m = .rmw f exe acc) (v : Byte) {s t : State} (hflags : t.flags = s.flags) : f v t = f v s := by
  cases m <;> cases he <;>
    simp [aslValue, lsrValue, rolValue, rorValue, incValue, decValue, sloValue, sreValue, rlaValue, rraValue, dcpValue, iscValue,
      hflags]

theorem branch_congr {m : Mnemonic} {taken : State → Bool} (he : executorOf m = .branch taken) {s t : State}
    (hflags : t.flags = s.flags) : taken t = taken s := by
  cases m <;> cases he <;>
    simp [bplTaken, bmiTaken, bvcTaken, bvsTaken, bccTaken, bcsTaken, bneTaken, beqTaken, hflags]

/-- The unstable stores have word-indexed modes alone. -/
theorem indexesWord_of_highAnd {i : Instr} {m : MemMode} {r : State → Byte} {exe : State → State} (ho : i.operand = .mem m)
    (he : executorOf i.mnemonic = .highAnd r exe) : m.indexesWord = true := by
  cases i <;> cases ho <;> cases he <;> rfl

/-! An ordinary FETCH. -/

/-- Ticks go from `s` to the state that exec answers for `i`. -/
abbrev ExecTicks (i : Instr) (s : State) : Prop := ∃ t, exec i s = .next t ∧ Ticks s t

/-- At a boundary of a running machine with nothing for the arbiter to select, where the bytes at PC are those of an instruction. -/
structure Fetches (s : State) (i : Instr) : Prop where
  running : s.halted = .running
  boundary : s.ic = ICycle.boundary
  quiet : s.arbitrate = none
  opcode : s.readValue s.pc = i.opcode
  operand : i.operand.bytes <+:
    [s.fetchOpcode.readValue s.fetchOpcode.pc, s.fetchOpcode.onFetch.readValue s.fetchOpcode.onFetch.pc]

theorem Fetches.of_decode {s : State} {i : Instr} {rest : List Byte} (hrun : s.halted = .running)
    (hs : s.ic = ICycle.boundary) (hquiet : s.arbitrate = none) (h : decode s.fetchBytes = .ok (i, rest)) : Fetches s i := by
  obtain ⟨hop, hbytes⟩ := List.cons.inj (decodedBytesAreTheEncoding s.fetchBytes i rest h)
  exact ⟨hrun, hs, hquiet, hop, rest, hbytes.symm⟩

section
variable {s : State} {i : Instr}

theorem fetchedLatches_decodes (h : (executorOf i.mnemonic).skipsDecode = false) : (fetchedLatches i).Decodes i :=
  ⟨by rw [fetchedLatches, h]; rfl, rfl⟩

theorem fetchedLatches_executes (h : (executorOf i.mnemonic).skipsDecode = true) : (fetchedLatches i).Executes i :=
  ⟨by rw [fetchedLatches, h]; rfl, rfl, rfl⟩

theorem fetchedLatches_opgroup {m : MemMode} (ho : i.operand = .mem m) :
    (fetchedLatches i).opgroup = (executorOf i.mnemonic).memoryGroup := by
  obtain ⟨row, hrow, -⟩ := exists_opcodeRow i
  rw [← group_of_mem ho hrow, fetchedLatches, hrow]
  rfl

theorem Fetches.oneTick (h : Fetches s i) (hm : i.mnemonic ≠ .jam) : OneTick s (s.fetchOpcode.withIc (fetchedLatches i)) :=
  oneTick_fetch h.running h.boundary h.quiet h.opcode hm

/-- The shared forms begin with a FETCH and go on to DECODE (R141, R144). -/
theorem Fetches.decode (h : Fetches s i) {e : Executor} (he : executorOf i.mnemonic = e) (hown : e.ownSequence = false) :
    OneTick s (s.fetchOpcode.withIc (fetchedLatches i)) ∧ (fetchedLatches i).Decodes i := by
  subst he
  refine ⟨h.oneTick fun hm => by simp [hm, executorOf, Executor.ownSequence] at hown, fetchedLatches_decodes ?_⟩
  cases he : executorOf i.mnemonic <;> simp [he, Executor.ownSequence] at hown <;> rfl

/-! The forms with a memory operand. -/

section
variable {m : MemMode}

theorem Fetches.ticks_eaKnown (h : Fetches s i) (ho : i.operand = .mem m) {e : Executor} (he : executorOf i.mnemonic = e)
    (hown : e.ownSequence = false) :
    Ticks s (eaKnown m ((m.resolve s).withIc (eaLatches m s (fetchedLatches i)))) := by
  obtain ⟨hfetch, hdecodes⟩ := h.decode he hown
  have hbytes := h.operand
  rw [ho] at hbytes
  exact .head hfetch
    (ticks_resolve h.running ho (fun hjmp => by rw [← he, hjmp] at hown; cases hown) hdecodes rfl hbytes)

theorem Fetches.read_mem (h : Fetches s i) {exe : Byte → State → State} (ho : i.operand = .mem m)
    (he : executorOf i.mnemonic = .read exe) : ExecTicks i s := by
  have hupdate : (executorOf i.mnemonic).Update (exe (m.operandRead s)) := he ▸ .read exe _
  obtain ⟨-, hdecodes⟩ := h.decode he rfl
  have hdecode := (h.ticks_eaKnown ho he rfl).trans
    (ticks_beforeRead h.running ho hdecodes rfl ((fetchedLatches_opgroup ho).trans (congrArg _ he)))
  refine ⟨_, exec_read_mem ho he s, hdecode.tail ?_⟩
  refine .execute (i := i) ((m.beforeRead_halted s).trans h.running) ⟨rfl, rfl, rfl⟩ ?_ (cycles_of_update hupdate _)
  rw [he]
  exact endInstr_update hupdate (s := (m.beforeRead s).onRead (m.ea s)) ((m.beforeRead_ic s).trans h.boundary) _

theorem Fetches.ticks_write (h : Fetches s i) (ho : i.operand = .mem m) {e : Executor} (he : executorOf i.mnemonic = e)
    (hg : e.memoryGroup = .write) :
    Ticks s ((m.beforeWrite s).withIc { eaLatches m s (fetchedLatches i) with opstate := .execute, tick := 0 }) := by
  have hown : e.ownSequence = false := by cases e <;> cases hg <;> rfl
  obtain ⟨-, hdecodes⟩ := h.decode he hown
  have hgroup : (fetchedLatches i).opgroup = .write := by rw [fetchedLatches_opgroup ho, he, hg]
  have hwrite := ticks_beforeWrite h.running ho hdecodes rfl (.inl hgroup)
  rw [resolved_eaLatches (by rw [hgroup]; decide)] at hwrite
  exact (h.ticks_eaKnown ho he hown).trans hwrite

theorem Fetches.write (h : Fetches s i) {v : State → Byte} (ho : i.operand = .mem m)
    (he : executorOf i.mnemonic = .write v) : ExecTicks i s := by
  refine ⟨_, exec_write ho he s, (h.ticks_write ho he rfl).tail ?_⟩
  refine .execute (i := i) ((m.beforeWrite_halted s).trans h.running) ⟨rfl, rfl, rfl⟩ ?_ rfl
  have hv (c : ICycle) : v ((m.beforeWrite s).withIc c) = v s := write_congr he (by simp) (by simp) (by simp)
  rw [he, executeTick, hv]
  exact State.endInstr_withIc (s := (m.beforeWrite s).onWrite (m.ea s) (v s)) ((m.beforeWrite_ic s).trans h.boundary) _

theorem Fetches.highAnd (h : Fetches s i) {r : State → Byte} {exe : State → State} (ho : i.operand = .mem m)
    (he : executorOf i.mnemonic = .highAnd r exe) : ExecTicks i s := by
  have hupdate : (executorOf i.mnemonic).Update exe := he ▸ .highAnd r exe
  have hm := indexesWord_of_highAnd ho he
  refine ⟨_, exec_highAnd ho he s, (h.ticks_write ho he rfl).tail ?_⟩
  refine .execute (i := i) ((m.beforeWrite_halted s).trans h.running) ⟨rfl, rfl, rfl⟩ ?_ (cycles_of_update hupdate _)
  have hr (c : ICycle) : r ((m.beforeWrite s).withIc c) = r s := highAnd_congr he (by simp) (by simp) (by simp)
  have hbase : latchedBase m s (fetchedLatches i) = m.base s := by cases m <;> cases hm <;> rfl
  have hcrossed : ((m.beforeWrite s).withIc
      { eaLatches m s (fetchedLatches i) with opstate := .execute, tick := 0 }).latchedCrossed = m.crossed s :=
    latchedCrossed_eaLatches (s := s) (c := fetchedLatches i) hm (m.beforeWrite s)
  rw [he, executeTick, hr, hcrossed, MemMode.highAndEa, ← hbase]
  exact endInstr_update hupdate (s := (m.beforeWrite s).onWrite _ _) ((m.beforeWrite_ic s).trans h.boundary) _

theorem Fetches.rmw_mem (h : Fetches s i) {f : Byte → State → Byte} {exe : Byte → State → State} {acc : State → State}
    (ho : i.operand = .mem m) (he : executorOf i.mnemonic = .rmw f exe acc) : ExecTicks i s := by
  have hupdate : (executorOf i.mnemonic).Update (exe (m.operandRmw s)) := he ▸ .rmw f exe acc _
  obtain ⟨-, hdecodes⟩ := h.decode he rfl
  have hgroup : (fetchedLatches i).opgroup = .rmw := by rw [fetchedLatches_opgroup ho, he]; rfl
  have hdecode := ((h.ticks_eaKnown ho he rfl).trans (ticks_beforeWrite h.running ho hdecodes rfl (.inr hgroup))).trans
    (ticks_rmw h.running ho hdecodes rfl hgroup)
  refine ⟨_, exec_rmw_mem ho he s, hdecode.tail ?_⟩
  refine .execute (i := i) ((m.beforeWrite_halted s).trans h.running) ⟨rfl, rfl, rfl⟩ ?_ (cycles_of_update hupdate _)
  have hf (c : ICycle) : f (m.operandRmw s)
      ((((m.beforeWrite s).onRead (m.ea s)).onWrite (m.ea s) (m.operandRmw s)).withIc c) = f (m.operandRmw s) s :=
    rmw_congr he _ (by simp)
  rw [he, executeTick]
  simp only [State.withIc_ic, hf]
  exact endInstr_update hupdate (s := m.rmwAccesses (f (m.operandRmw s) s) s) ((m.beforeWrite_ic s).trans h.boundary) _

end

/-! The forms without one: DECODE and EXECUTE are one tick (R145). -/

theorem Fetches.read_imm (h : Fetches s i) {d : Byte} {exe : Byte → State → State} (ho : i.operand = .imm d)
    (he : executorOf i.mnemonic = .read exe) : ExecTicks i s := by
  have hupdate : (executorOf i.mnemonic).Update (exe d) := he ▸ .read exe d
  obtain ⟨hfetch, hdecodes⟩ := h.decode he rfl
  obtain rfl : d = s.fetchOpcode.readValue s.fetchOpcode.pc := by simpa [ho, Operand.bytes] using h.operand
  refine ⟨_, exec_read_imm ho he s, .head hfetch (.single ?_)⟩
  refine .fused h.running hdecodes (by rw [ho]) rfl ?_ (cycles_of_update hupdate _)
  rw [ho, he]
  exact endInstr_update hupdate (s := s.fetchOpcode.onFetch) h.boundary _

theorem Fetches.nop_imp (h : Fetches s i) (ho : i.operand = .imp) (hm : i.mnemonic = .nop) :
    ExecTicks i s := by
  have he : executorOf i.mnemonic = .read nopReadOp := congrArg executorOf hm
  obtain ⟨hfetch, hdecodes⟩ := h.decode he rfl
  refine ⟨_, exec_nop_imp hm ho s, .head hfetch (.single ?_)⟩
  refine .fused h.running hdecodes (by rw [ho]) rfl ?_ rfl
  rw [ho, he]
  exact State.endInstr_withIc (s := s.fetchOpcode.onRead s.fetchOpcode.pc) h.boundary _

theorem Fetches.rmw_acc (h : Fetches s i) {f : Byte → State → Byte} {exe : Byte → State → State} {acc : State → State}
    (ho : i.operand = .acc) (he : executorOf i.mnemonic = .rmw f exe acc) : ExecTicks i s := by
  have hupdate : (executorOf i.mnemonic).Update acc := he ▸ .acc f exe acc
  obtain ⟨hfetch, hdecodes⟩ := h.decode he rfl
  refine ⟨_, exec_rmw_acc ho he s, .head hfetch (.single ?_)⟩
  refine .fused h.running hdecodes (by rw [ho]) rfl ?_ (cycles_of_update hupdate _)
  rw [he]
  exact endInstr_update hupdate (s := s.fetchOpcode.onRead s.fetchOpcode.pc) h.boundary _

theorem Fetches.implied (h : Fetches s i) {exe : State → State} (ho : i.operand = .imp)
    (he : executorOf i.mnemonic = .implied exe) : ExecTicks i s := by
  have hupdate : (executorOf i.mnemonic).Update exe := he ▸ .implied exe
  obtain ⟨hfetch, hdecodes⟩ := h.decode he rfl
  refine ⟨_, exec_implied he s, .head hfetch (.single ?_)⟩
  refine .fused h.running hdecodes (by rw [ho]) rfl ?_ (cycles_of_update hupdate _)
  rw [he]
  exact endInstr_update hupdate (s := s.fetchOpcode.onRead s.fetchOpcode.pc) h.boundary _

/-- The EXECUTE ticks of a taken branch whose next instruction is at PC: one more when the target is on another page (R174). -/
theorem ticks_branch {taken : State → Bool} {u : State} {c : ICycle} {target : Word}
    (he : executorOf i.mnemonic = .branch taken) (hrun : u.halted = .running) (hu : u.ic = ICycle.boundary) (hc : c.Executes i) :
    Ticks (u.withIc { c with tick := 0, baseAddress := u.pc, address := target })
      (if hi target = hi u.pc then { u.onRead u.pc with pc := target }
        else { (u.onRead u.pc).onRead (w16 (hi u.pc) (lo target)) with pc := target }) := by
  by_cases hpage : hi target = hi u.pc
  · rw [if_pos hpage]
    refine .single (.execute hrun hc ?_ rfl)
    rw [he, executeTick, branchTick]
    simp only [State.withIc_ic, hpage, if_true]
    exact State.endInstr_withIc (s := { u.onRead u.pc with pc := target }) hu _
  · rw [if_neg hpage]
    have hnext : OneTick (u.withIc { c with tick := 0, baseAddress := u.pc, address := target })
        ((u.onRead u.pc).withIc { c with tick := 1, baseAddress := u.pc, address := target }) := by
      refine .execute hrun hc ?_ rfl
      rw [he, executeTick, branchTick]
      simp only [State.withIc_ic, hpage, if_false]
      rfl
    refine .head hnext (.single (.execute hrun hc ?_ rfl))
    rw [he, executeTick, branchTick]
    exact State.endInstr_withIc (s := { (u.onRead u.pc).onRead (w16 (hi u.pc) (lo target)) with pc := target }) hu _

/-- A branch: one fused tick when it is not taken, and EXECUTE ticks of its own when it is (41_addressing_modes.md R174). -/
theorem Fetches.branch (h : Fetches s i) {d : Byte} {taken : State → Bool} (ho : i.operand = .rel d)
    (he : executorOf i.mnemonic = .branch taken) : ExecTicks i s := by
  obtain ⟨hfetch, hdecodes⟩ := h.decode he rfl
  obtain rfl : d = s.fetchOpcode.readValue s.fetchOpcode.pc := by simpa [ho, Operand.bytes] using h.operand
  have htaken (c : ICycle) : taken (s.fetchOpcode.withIc c) = taken s := branch_congr he rfl
  rw [ExecTicks, exec_branch ho he, branchInstr]
  cases ht : taken s with
  | false =>
    refine ⟨_, rfl, .head hfetch (.single (.fused h.running hdecodes
      (v := s.fetchOpcode.onFetch.withIc { fetchedLatches i with skipTransition := true }) ?_ rfl ?_ rfl))⟩
    · rw [ho, he]
      simp only [Operand.mode, decodeTick, htaken, ht, Bool.false_eq_true, if_false]
      rfl
    · rw [ho, he]
      exact State.endInstr_withIc (s := s.fetchOpcode.onFetch) h.boundary _
  | true =>
    have hdecode : OneTick (s.fetchOpcode.withIc (fetchedLatches i))
        (s.fetchOpcode.onFetch.withIc
          { fetchedLatches i with
            opstate := .execute, tick := 0, baseAddress := s.fetchOpcode.onFetch.pc
            address := branchTarget s.fetchOpcode.onFetch.pc (s.fetchOpcode.readValue s.fetchOpcode.pc) }) := by
      refine .decode h.running hdecodes ?_ rfl rfl
      rw [ho, he]
      simp only [Operand.mode, decodeTick, htaken, ht, if_true]
      rfl
    exact ⟨_, (apply_ite Host.Outcome.next _ _ _).symm,
      .head hfetch (.head hdecode (ticks_branch (u := s.fetchOpcode.onFetch) (c := { fetchedLatches i with opstate := .execute }) he
        h.running h.boundary ⟨rfl, rfl, rfl⟩))⟩

end

/-! The sequences of their own. -/

/-- The five cycles of the exception entry, from latches whose ticks it makes (60_exceptions.md R407). -/
theorem ticks_enterVector {b : Bool} {vec : Word} {c : ICycle} {u : State} (hrun : u.halted = .running)
    (hu : u.ic = ICycle.boundary)
    (hentry : ∀ (w : State) (n : Nat) (a : Word),
      runningTick (w.withIc { c with tick := n + 1, address := a }) =
        entryTick b vec n (w.withIc { c with tick := n + 1, address := a })) :
    Ticks (u.withIc { c with tick := 1 }) (u.enterVector b vec) := by
  have h0 : OneTick (u.withIc { c with tick := 1 }) ((u.push (hi u.pc)).withIc { c with tick := 2 }) :=
    ⟨hrun, hentry u 0 c.address, rfl⟩
  have h1 (w : State) (hw : w.halted = .running) :
      OneTick (w.withIc { c with tick := 2 }) ((w.push (lo w.pc)).withIc { c with tick := 3 }) :=
    ⟨hw, hentry w 1 c.address, rfl⟩
  have h2 (w : State) (hw : w.halted = .running) :
      OneTick (w.withIc { c with tick := 3 }) ((w.push (packP w.flags b)).withIc { c with tick := 4 }) :=
    ⟨hw, hentry w 2 c.address, rfl⟩
  have h3 (w : State) (hw : w.halted = .running) :
      OneTick (w.withIc { c with tick := 4 })
        ((w.onRead vec).withIc { c with tick := 5, address := zext16 (w.readValue vec) }) := ⟨hw, hentry w 3 c.address, rfl⟩
  have h4 (w : State) (l : Byte) (hw : w.halted = .running) (hic : w.ic = ICycle.boundary) :
      OneTick (w.withIc { c with tick := 5, address := zext16 l })
        { w.onRead (vec + 1) with
          pc := w16 (w.readValue (vec + 1)) l, flags := { w.flags with i := true } } := by
    refine ⟨hw, (hentry w 4 (zext16 l)).trans ?_, rfl⟩
    simp only [entryTick, State.withIc_ic, lo_zext16]
    exact State.endInstr_withIc
      (s := { w.onRead (vec + 1) with pc := w16 (w.readValue (vec + 1)) l, flags := { w.flags with i := true } }) hic _
  exact .head h0 (.head (h1 _ hrun) (.head (h2 _ hrun) (.head (h3 _ hrun) (.single (h4 _ _ hrun hu)))))

/-- The two dummy reads of the instructions that pull (44_control_stack_flags.md R303, R304, R317, R318). -/
theorem ticks_stackReads {i : Instr} {c : ICycle} {u : State} (hi : i ∈ [Instr.rts, .rti, .pla, .plp])
    (hrun : u.halted = .running) (hc : c.Executes i) :
    Ticks (u.withIc { c with tick := 0 }) ((u.onRead u.pc).touchStack.withIc { c with tick := 2 }) := by
  have hpc : OneTick (u.withIc { c with tick := 0 }) ((u.onRead u.pc).withIc { c with tick := 1 }) := by
    refine .execute hrun hc ?_ rfl
    simp only [List.mem_cons, List.not_mem_nil, or_false] at hi
    obtain rfl | rfl | rfl | rfl := hi <;> rfl
  have htop : OneTick ((u.onRead u.pc).withIc { c with tick := 1 })
      ((u.onRead u.pc).touchStack.withIc { c with tick := 2 }) := by
    refine .execute hrun hc ?_ rfl
    simp only [List.mem_cons, List.not_mem_nil, or_false] at hi
    obtain rfl | rfl | rfl | rfl := hi <;> rfl
  exact .head hpc (.single htop)

theorem ticks_rts {c : ICycle} {u : State} (hrun : u.halted = .running) (hu : u.ic = ICycle.boundary) (hc : c.Executes .rts) :
    Ticks (u.withIc { c with tick := 2 })
      (State.onFetch { u.onPull.onPull with pc := w16 u.onPull.pullValue u.pullValue }) := by
  have hlow : OneTick (u.withIc { c with tick := 2 })
      (u.onPull.withIc { c with tick := 3, address := zext16 u.pullValue }) := .execute hrun hc rfl rfl
  have hhigh : OneTick (u.onPull.withIc { c with tick := 3, address := zext16 u.pullValue })
      (State.withIc { u.onPull.onPull with pc := w16 u.onPull.pullValue u.pullValue }
        { c with tick := 4, address := zext16 u.pullValue }) := by
    refine .execute hrun hc ?_ rfl
    calc
      _ = State.withIc { u.onPull.onPull with pc := w16 u.onPull.pullValue (lo (zext16 u.pullValue)) }
            { c with tick := 4, address := zext16 u.pullValue } := rfl
      _ = _ := by rw [lo_zext16]
  refine .head hlow (.head hhigh (.single (.execute hrun hc ?_ rfl)))
  exact State.endInstr_withIc (s := State.onFetch { u.onPull.onPull with pc := w16 u.onPull.pullValue u.pullValue }) hu _

/-- RTI may as well load the flags last: the pulls do not see them. -/
theorem State.returnFromVector_eq_pulls (s : State) :
    s.returnFromVector =
      { s.onPull.onPull.onPull with
        pc := w16 s.onPull.onPull.pullValue s.onPull.pullValue, flags := unpackP s.pullValue } := rfl

theorem ticks_rti {c : ICycle} {u : State} (hrun : u.halted = .running) (hu : u.ic = ICycle.boundary) (hc : c.Executes .rti) :
    Ticks (u.withIc { c with tick := 2 }) u.returnFromVector := by
  have hstatus : OneTick (u.withIc { c with tick := 2 }) (u.onPull.withIc { c with tick := 3, tmp := u.pullValue }) :=
    .execute hrun hc rfl rfl
  have hlow (w : State) (p : Byte) (hw : w.halted = .running) : OneTick (w.withIc { c with tick := 3, tmp := p })
      (w.onPull.withIc { c with tick := 4, tmp := p, address := zext16 w.pullValue }) := .execute hw hc rfl rfl
  have hhigh (w : State) (p l : Byte) (hw : w.halted = .running) (hic : w.ic = ICycle.boundary) :
      OneTick (w.withIc { c with tick := 4, tmp := p, address := zext16 l })
        { w.onPull with pc := w16 w.pullValue l, flags := unpackP p } := by
    refine .execute hw hc ?_ rfl
    calc
      _ = State.endInstr (State.withIc { w.onPull with pc := w16 w.pullValue (lo (zext16 l)), flags := unpackP p }
            { c with tick := 4, tmp := p, address := zext16 l }) := rfl
      _ = _ := by rw [lo_zext16]; exact State.endInstr_withIc (s := { w.onPull with pc := _, flags := _ }) hic _
  rw [State.returnFromVector_eq_pulls]
  exact .head hstatus (.head (hlow _ _ hrun) (.single (hhigh _ _ _ hrun hu)))

/-- The pulls of PLA and PLP, with the update of each. -/
theorem ticks_pla {c : ICycle} {u : State} (hrun : u.halted = .running) (hu : u.ic = ICycle.boundary) (hc : c.Executes .pla) :
    Ticks (u.withIc { c with tick := 2 }) (ldaOp u.pullValue u.onPull) :=
  .single (.execute hrun hc (State.endInstr_withIc (s := ldaOp u.pullValue u.onPull) hu _) rfl)

theorem ticks_plp {c : ICycle} {u : State} (hrun : u.halted = .running) (hu : u.ic = ICycle.boundary) (hc : c.Executes .plp) :
    Ticks (u.withIc { c with tick := 2 }) { u.onPull with flags := unpackP u.pullValue } :=
  .single (.execute hrun hc (State.endInstr_withIc (s := { u.onPull with flags := unpackP u.pullValue }) hu _) rfl)

theorem ticks_push {i : Instr} {v : Byte} {c : ICycle} {u : State} (hrun : u.halted = .running) (hu : u.ic = ICycle.boundary)
    (hc : c.Executes i)
    (hi : i = .pha ∧ v = u.a ∨ i = .php ∧ v = packP u.flags true) :
    Ticks (u.withIc { c with tick := 0 }) ((u.onRead u.pc).push v) := by
  have hpc : OneTick (u.withIc { c with tick := 0 }) ((u.onRead u.pc).withIc { c with tick := 1 }) := by
    refine .execute hrun hc ?_ rfl
    obtain ⟨rfl, -⟩ | ⟨rfl, -⟩ := hi <;> rfl
  refine .head hpc (.single (.execute hrun hc ?_ rfl))
  obtain ⟨rfl, rfl⟩ | ⟨rfl, rfl⟩ := hi <;> exact State.endInstr_withIc (s := (u.onRead u.pc).push _) hu _

theorem ticks_jsr {a : Word} {c : ICycle} {u : State} (hrun : u.halted = .running) (hu : u.ic = ICycle.boundary)
    (hc : c.Executes (.jsr a)) (ha : lo a = u.readValue u.pc) :
    let s3 := u.onFetch.touchStack
    let s5 := (s3.push (hi s3.pc)).push (lo s3.pc)
    Ticks (u.withIc { c with tick := 0 }) { s5.onRead s5.pc with pc := w16 (s5.readValue s5.pc) (lo a) } := by
  have hlow : OneTick (u.withIc { c with tick := 0 }) (u.onFetch.withIc { c with tick := 1, address := zext16 (lo a) }) := by
    refine .execute hrun hc ?_ rfl
    rw [ha]
    rfl
  have htop (w : State) (hw : w.halted = .running) : OneTick (w.withIc { c with tick := 1, address := zext16 (lo a) })
      (w.touchStack.withIc { c with tick := 2, address := zext16 (lo a) }) := .execute hw hc rfl rfl
  have hpushHigh (w : State) (hw : w.halted = .running) : OneTick (w.withIc { c with tick := 2, address := zext16 (lo a) })
      ((w.push (hi w.pc)).withIc { c with tick := 3, address := zext16 (lo a) }) := .execute hw hc rfl rfl
  have hpushLow (w : State) (hw : w.halted = .running) : OneTick (w.withIc { c with tick := 3, address := zext16 (lo a) })
      ((w.push (lo w.pc)).withIc { c with tick := 4, address := zext16 (lo a) }) := .execute hw hc rfl rfl
  have hhigh (w : State) (hw : w.halted = .running) (hic : w.ic = ICycle.boundary) :
      OneTick (w.withIc { c with tick := 4, address := zext16 (lo a) })
        { w.onRead w.pc with pc := w16 (w.readValue w.pc) (lo a) } := by
    refine .execute hw hc ?_ rfl
    calc
      _ = State.endInstr (State.withIc { w.onRead w.pc with pc := w16 (w.readValue w.pc) (lo (zext16 (lo a))) }
            { c with tick := 4, address := zext16 (lo a) }) := rfl
      _ = _ := by rw [lo_zext16]; exact State.endInstr_withIc (s := { w.onRead w.pc with pc := _ }) hic _
  exact .head hlow (.head (htop _ hrun) (.head (hpushHigh _ hrun) (.head (hpushLow _ hrun) (.single (hhigh _ hrun hu)))))

theorem ticks_jmpAbs {a : Word} {c : ICycle} {u : State} (hrun : u.halted = .running) (hu : u.ic = ICycle.boundary)
    (hc : c.Decodes (.jmpAbs a)) (hskip : c.skipTransition = false) (hl : lo a = u.readValue u.pc)
    (hh : hi a = u.onFetch.readValue u.onFetch.pc) :
    Ticks (u.withIc { c with tick := 0 }) { u.onFetch.onFetch with pc := a } := by
  have hlow : OneTick (u.withIc { c with tick := 0 }) (u.onFetch.withIc { c with tick := 1, address := zext16 (lo a) }) := by
    refine .decode hrun hc ?_ hskip rfl
    rw [hl]
    rfl
  refine .head hlow (.single (.fused hrun hc
    (v := u.onFetch.onFetch.withIc { c with tick := 1, address := a, skipTransition := true }) ?_ rfl ?_ rfl))
  · calc
      _ = u.onFetch.onFetch.withIc
            { c with tick := 1, address := w16 (u.onFetch.readValue u.onFetch.pc) (lo (zext16 (lo a))), skipTransition := true } :=
          rfl
      _ = _ := by rw [lo_zext16, ← hh, w16_hi_lo]
  · exact State.endInstr_withIc (s := { u.onFetch.onFetch with pc := a }) hu _

theorem ticks_jmpInd {p : Word} {c : ICycle} {u : State} (hrun : u.halted = .running) (hu : u.ic = ICycle.boundary)
    (hc : c.Decodes (.jmpInd p)) (hskip : c.skipTransition = false) (hl : lo p = u.readValue u.pc)
    (hh : hi p = u.onFetch.readValue u.onFetch.pc) :
    let s3 := u.onFetch.onFetch
    let s4 := s3.onRead p
    let s5 := s4.onRead (indirectHighAddress p)
    Ticks (u.withIc { c with tick := 0 }) { s5 with pc := w16 (s4.readValue (indirectHighAddress p)) (s3.readValue p) } := by
  intro s3 s4 s5
  have hlow : OneTick (u.withIc { c with tick := 0 }) (u.onFetch.withIc { c with tick := 1, baseAddress := zext16 (lo p) }) := by
    refine .decode hrun hc ?_ hskip rfl
    rw [hl]
    rfl
  have hhigh : OneTick (u.onFetch.withIc { c with tick := 1, baseAddress := zext16 (lo p) })
      (s3.withIc { c with tick := 2, baseAddress := p }) := by
    refine .decode hrun hc ?_ hskip rfl
    calc
      _ = s3.withIc { c with tick := 2, baseAddress := w16 (u.onFetch.readValue u.onFetch.pc) (lo (zext16 (lo p))) } := rfl
      _ = _ := by rw [lo_zext16, ← hh, w16_hi_lo]
  have htarget : OneTick (s3.withIc { c with tick := 2, baseAddress := p })
      (s4.withIc { c with tick := 3, baseAddress := p, address := zext16 (s3.readValue p) }) := .decode hrun hc rfl hskip rfl
  refine .head hlow (.head hhigh (.head htarget (.single (.fused hrun hc
    (v := s5.withIc
      { c with
        tick := 3, baseAddress := p, skipTransition := true
        address := w16 (s4.readValue (indirectHighAddress p)) (s3.readValue p) }) ?_ rfl ?_ rfl))))
  · calc
      _ = s5.withIc
            { c with
              tick := 3, baseAddress := p, skipTransition := true
              address := w16 (s4.readValue (indirectHighAddress p)) (lo (zext16 (s3.readValue p))) } := rfl
      _ = _ := by rw [lo_zext16]
  · exact State.endInstr_withIc (s := { s5 with pc := w16 (s4.readValue (indirectHighAddress p)) (s3.readValue p) }) hu _

end Sys2Proof.Machine
end

section
/-! PROOFS of the family 40_instruction_cycle, the transitions. Every instruction, and every interrupt sequence, is a run of ticks
(40_instruction_cycle.md R140 to R150; 60_exceptions.md R407). -/

namespace Sys2Proof.Machine

open Sys2Proof.Claims

/-! Every instruction. -/

theorem Fetches.jam {s : State} {k : Fin 12} (h : Fetches s (.jam k)) : ExecTicks (.jam k) s :=
  ⟨_, rfl, .single (oneTick_fetch_jam h.running h.boundary h.quiet h.opcode)⟩

/-- The instructions with a sequence of their own: from DECODE for the jumps, from EXECUTE for the others (R144). -/
theorem Fetches.own {s : State} {i : Instr} (h : Fetches s i) (hown : OwnSequence i) : ExecTicks i s := by
  by_cases hm : i.mnemonic = .jam
  case pos =>
    cases hown <;> cases hm
    exact h.jam
  have hfetch := h.oneTick hm
  have hrun : s.fetchOpcode.halted = .running := h.running
  have hic : s.fetchOpcode.ic = ICycle.boundary := h.boundary
  have hbytes := h.operand
  cases hown with
  | jam k => exact absurd rfl hm
  | brk =>
    have hc : (fetchedLatches .brk).Executes .brk := fetchedLatches_executes rfl
    have hpad : OneTick (s.fetchOpcode.withIc (fetchedLatches .brk))
        (s.fetchOpcode.onFetch.withIc { fetchedLatches .brk with tick := 1 }) := .execute hrun hc rfl rfl
    have hentry := ticks_enterVector (b := true) (vec := Config.irqVector) (c := fetchedLatches .brk)
      (u := s.fetchOpcode.onFetch) hrun hic
      fun w n a => runningTick_of_executes (i := .brk) (u := w) (c := { fetchedLatches .brk with tick := n + 1, address := a }) hc
    exact ⟨_, rfl, .head hfetch (.head hpad hentry)⟩
  | rti =>
    have hc : (fetchedLatches .rti).Executes .rti := fetchedLatches_executes rfl
    exact ⟨_, rfl, .head hfetch ((ticks_stackReads (by simp) hrun hc).trans (ticks_rti hrun hic hc))⟩
  | rts =>
    have hc : (fetchedLatches .rts).Executes .rts := fetchedLatches_executes rfl
    exact ⟨_, rfl, .head hfetch ((ticks_stackReads (by simp) hrun hc).trans (ticks_rts hrun hic hc))⟩
  | pla =>
    have hc : (fetchedLatches .pla).Executes .pla := fetchedLatches_executes rfl
    exact ⟨_, rfl, .head hfetch ((ticks_stackReads (by simp) hrun hc).trans (ticks_pla hrun hic hc))⟩
  | plp =>
    have hc : (fetchedLatches .plp).Executes .plp := fetchedLatches_executes rfl
    exact ⟨_, rfl, .head hfetch ((ticks_stackReads (by simp) hrun hc).trans (ticks_plp hrun hic hc))⟩
  | pha => exact ⟨_, rfl, .head hfetch (ticks_push hrun hic (fetchedLatches_executes rfl) (.inl ⟨rfl, rfl⟩))⟩
  | php => exact ⟨_, rfl, .head hfetch (ticks_push hrun hic (fetchedLatches_executes rfl) (.inr ⟨rfl, rfl⟩))⟩
  | jsr a =>
    have ha : lo a = s.fetchOpcode.readValue s.fetchOpcode.pc := (List.cons_prefix_cons.1 hbytes).1
    exact ⟨_, rfl, .head hfetch (ticks_jsr hrun hic (fetchedLatches_executes rfl) ha)⟩
  | jmpAbs a =>
    obtain ⟨hl, hbytes⟩ := List.cons_prefix_cons.1 hbytes
    obtain ⟨hh, -⟩ := List.cons_prefix_cons.1 hbytes
    exact ⟨_, rfl, .head hfetch (ticks_jmpAbs hrun hic (fetchedLatches_decodes rfl) rfl hl hh)⟩
  | jmpInd p =>
    obtain ⟨hl, hbytes⟩ := List.cons_prefix_cons.1 hbytes
    obtain ⟨hh, -⟩ := List.cons_prefix_cons.1 hbytes
    exact ⟨_, rfl, .head hfetch (ticks_jmpInd hrun hic (fetchedLatches_decodes rfl) rfl hl hh)⟩

/-- Every instruction goes tick by tick to the state that exec answers. -/
theorem Fetches.ticks_exec {s : State} {i : Instr} (h : Fetches s i) : ExecTicks i s := by
  cases hasOperand i with
  | own hown => exact h.own hown
  | readMem m exe ho he => exact h.read_mem ho he
  | readImm d exe ho he => exact h.read_imm ho he
  | nopImp ho hm => exact h.nop_imp ho hm
  | write m v ho he => exact h.write ho he
  | highAnd m r exe ho he => exact h.highAnd ho he
  | rmwMem m f exe acc ho he => exact h.rmw_mem ho he
  | rmwAcc f exe acc ho he => exact h.rmw_acc ho he
  | implied exe ho he => exact h.implied ho he
  | branch d taken ho he => exact h.branch ho he

/-- So does every interrupt sequence (60_exceptions.md R407). -/
theorem ticks_interruptSequence {s : State} {k : IntKind} (hrun : s.halted = .running) (hs : s.ic = ICycle.boundary)
    (hk : s.arbitrate = some k) : Ticks s ((s.consume k).interruptSequence k) := by
  have hrun' : (s.consume k).halted = .running := by cases k <;> exact hrun
  have hpc : (s.consume k).pc = s.pc := by cases k <;> rfl
  have hic : (s.consume k).ic = ICycle.boundary := (sameStore_consume s k).ic.trans hs
  have hfetch := oneTick_fetch_interrupt hrun hs hk
  rw [← hpc] at hfetch
  have hdummy : OneTick
      (((s.consume k).beginSequence.onRead (s.consume k).pc).withIc
        { ICycle.boundary with opstate := .execute, intKind := some k })
      ((((s.consume k).beginSequence.onRead (s.consume k).pc).onRead (s.consume k).pc).withIc
        { ICycle.boundary with opstate := .execute, intKind := some k, tick := 1 }) :=
    ⟨hrun', (runningTick_of_interrupt rfl rfl).trans rfl, rfl⟩
  exact .head hfetch (.head hdummy (ticks_enterVector (c := { ICycle.boundary with opstate := .execute, intKind := some k })
    hrun' hic fun w n a => runningTick_of_interrupt rfl rfl))

/-- Every three bytes decode. -/
theorem exists_decode_fetchBytes (s : State) : ∃ i rest, decode s.fetchBytes = .ok (i, rest) := by
  obtain ⟨i, -, hi⟩ := everyOpcodeByteDecodes (s.readValue s.pc) (s.onFetch.readValue s.onFetch.pc)
    (s.onFetch.onFetch.readValue s.onFetch.onFetch.pc) []
  exact ⟨i, _, hi⟩

/-- Settles O58: the arbiter's choice, an interrupt sequence or the instruction decoded, is made by as many ticks as it counts
cycles. -/
theorem stepIsTicks : Obligations.StepIsTicks := by
  unfold Obligations.StepIsTicks
  intro s hrun hs
  suffices h : ∃ t, step s = .next t ∧ Ticks s t by
    obtain ⟨t, hstep, hticks⟩ := h
    exact ⟨t, hstep, hticks.ticks_eq⟩
  have hfetch : AtFetch s := ⟨hrun, congrArg ICycle.opstate hs⟩
  cases hk : s.arbitrate with
  | some k => exact ⟨_, step_of_interrupt hfetch hk, ticks_interruptSequence hrun hs hk⟩
  | none =>
    obtain ⟨i, rest, hdecode⟩ := exists_decode_fetchBytes s
    obtain ⟨t, hexec, hticks⟩ := (Fetches.of_decode hrun hs hk hdecode).ticks_exec
    refine ⟨t, ?_, hticks⟩
    rw [step_of_atFetch hfetch, fromBoundary, hk]
    exact (runInstruction_of_decode hdecode).trans hexec

end Sys2Proof.Machine
end
